-- ==== Sys2Proof/Word.lean ====
section
/-! DEFINITION. The data types every rule speaks of: a byte, a word of 4 bytes, a buffer of 16 bytes
(00_scope.md R10, R11). No multi-byte integer is ever formed from them (R11, R52): a buffer is its bytes by index. -/

namespace Sys2Proof

/-- A byte (R10): an integer in [0,255], bit `i` of weight `2^i`. -/
abbrev Byte := BitVec 8

/-- A word is 4 bytes `(w[0], w[1], w[2], w[3])`, `w[0]` first (R11, R96). -/
structure Word where
  b0 : Byte
  b1 : Byte
  b2 : Byte
  b3 : Byte
  deriving DecidableEq, Repr, Inhabited

/-- Byte `k` of a word (R11). -/
def Word.get (w : Word) (k : Fin 4) : Byte :=
  match k with
  | 0 => w.b0
  | 1 => w.b1
  | 2 => w.b2
  | 3 => w.b3

/-- The word whose byte `k` is `f k`. -/
def Word.ofFn (f : Fin 4 → Byte) : Word := ⟨f 0, f 1, f 2, f 3⟩

/-- A 16-byte buffer held as its 4 words: word `j` is bytes `4j .. 4j+3` (R11, R53). -/
structure Block where
  w0 : Word
  w1 : Word
  w2 : Word
  w3 : Word
  deriving DecidableEq, Repr, Inhabited

/-- Word `j` of a buffer (R11). -/
def Block.word (b : Block) (j : Fin 4) : Word :=
  match j with
  | 0 => b.w0
  | 1 => b.w1
  | 2 => b.w2
  | 3 => b.w3

/-- Byte `i` of a buffer, `B[i]` for `i = 0..15` (R11). -/
def Block.get (b : Block) (i : Fin 16) : Byte :=
  (b.word ⟨i.val / 4, by omega⟩).get ⟨i.val % 4, by omega⟩

/-- The buffer whose word `j` is `f j`. -/
def Block.ofWords (f : Fin 4 → Word) : Block := ⟨f 0, f 1, f 2, f 3⟩

/-- The buffer whose byte `i` is `f i`: every byte is computed before the buffer exists (R13, R56). -/
def Block.ofFn (f : Fin 16 → Byte) : Block :=
  ⟨⟨f 0, f 1, f 2, f 3⟩, ⟨f 4, f 5, f 6, f 7⟩, ⟨f 8, f 9, f 10, f 11⟩, ⟨f 12, f 13, f 14, f 15⟩⟩

end Sys2Proof
end

