-- ==== Sys2Proof/Syntax.lean ====
section
/-! DEFINITION. The instructions of spec/opcode_table.json (one constructor a row), the two bit formats they are
written in, and the boundary command record (30_encoding.md R70 to R75). -/

namespace Sys2Proof

/-- An instruction in the sense of R70: a core command (`ENC`, `DEC`, format `CCMD`) or a micro-operation (format
`UOP`). The round index of `KXR` and `ARK` is the 4-bit field `w[3:0]` as it stands in the word (R76). -/
inductive Instr where
  | enc (key block : Block)
  | dec (key block : Block)
  | kld
  | kxr (n : BitVec 4)
  | ldst
  | ark (n : BitVec 4)
  | sb
  | sr
  | mc
  | isb
  | isr
  | imc
  | out
  deriving DecidableEq, Repr

/-- The encoded forms of an instruction: a micro-operation word held in `UROM` (R74) or the 257 bits of a core command
(R72), which the ports carry as three fields. The two come from different places and are never mixed (R70). -/
inductive InstrWord where
  | uop (w : BitVec 8)
  | cmd (w : BitVec 257)
  deriving DecidableEq, Repr

/-- Format `BCMD` (R71): a boundary command, made of unbounded signed integers. It is no bit pattern. -/
structure BCmd where
  keyColl : List Int
  blockColl : List Int
  modeSel : Int
  deriving DecidableEq, Repr

end Sys2Proof
end

