-- ==== Sys2Proof/WellFormed.lean ====
section
/-! DEFINITION. Which instruction terms have an encoding: the operand ranges of R76 and R77. -/

namespace Sys2Proof

/-- `KXR n` is legal for n = 1..10 (R76). -/
def kxrIndexOk (n : BitVec 4) : Bool := 1 ≤ n.toNat && n.toNat ≤ 10

/-- `ARK n` is legal for n = 0..10 (R76). -/
def arkIndexOk (n : BitVec 4) : Bool := n.toNat ≤ 10

/-- Well-formed instructions: every core command (R72: every `CCMD` is legal) and the micro-operations whose round
index is in range (R76, R77). -/
def Instr.wf : Instr → Bool
  | .enc _ _ => true
  | .dec _ _ => true
  | .kld => true
  | .kxr n => kxrIndexOk n
  | .ldst => true
  | .ark n => arkIndexOk n
  | .sb => true
  | .sr => true
  | .mc => true
  | .isb => true
  | .isr => true
  | .imc => true
  | .out => true

end Sys2Proof
end

