-- ==== Sys2Proof/Decode.lean ====
section
/-! DEFINITION. Decoding, total on every word of both formats and rejecting by name (30_encoding.md R72 to R79), the
byte order of a buffer inside a 128-bit field (R52, R72), and the encoder. -/

namespace Sys2Proof

/-- Why a micro-operation word is illegal, the four classes of R77. Every `CCMD` is legal (R72). -/
inductive Reject where
  /-- `op` is 0x0 or 0xc..0xf. -/
  | illegalOp (w : BitVec 8)
  /-- `KXR` with n = 0 or n = 11..15. -/
  | kxrIndex (w : BitVec 8)
  /-- `ARK` with n = 11..15. -/
  | arkIndex (w : BitVec 8)
  /-- an operation without operand, with n not 0. -/
  | strayOperand (w : BitVec 8)
  deriving DecidableEq, Repr

/-- The word a rejection is about. -/
def rejectedWord : Reject → BitVec 8
  | .illegalOp w => w
  | .kxrIndex w => w
  | .arkIndex w => w
  | .strayOperand w => w

/-! ### Buffers inside 128-bit fields -/

/-- Byte `i` of a 128-bit field is bits `[127 - 8i : 120 - 8i]` (R52, R72). -/
def fieldByte (x : BitVec 128) (i : Fin 16) : Byte := x.extractLsb' (120 - 8 * i.val) 8

/-- The buffer a 128-bit field carries (R52, R72). -/
def blockOfField (x : BitVec 128) : Block := Block.ofFn (fieldByte x)

/-- The 128-bit field that carries a buffer: byte i shifted to bits `[127 - 8i : 120 - 8i]`, byte 0 most significant
(R52, R72). -/
def fieldOfBlock (b : Block) : BitVec 128 :=
  (List.finRange 16).foldl (fun x i => x ||| (b.get i).setWidth 128 <<< (120 - 8 * i.val)) 0#128

/-! ### The core command word -/

/-- The `CCMD` word with the three fields in the places R72 gives them. -/
def cmdWord (mode : BitVec 1) (key block : BitVec 128) : BitVec 257 :=
  mode.setWidth 257 <<< 256 ||| key.setWidth 257 <<< 128 ||| block.setWidth 257

/-- `CCMD[256]`, the mode (R72). -/
def cmdMode (w : BitVec 257) : BitVec 1 := w.extractLsb' 256 1

/-- `CCMD[255:128]`, the key (R72). -/
def cmdKey (w : BitVec 257) : BitVec 128 := w.extractLsb' 128 128

/-- `CCMD[127:0]`, the block (R72). -/
def cmdBlock (w : BitVec 257) : BitVec 128 := w.extractLsb' 0 128

/-- The core command with mode bit `mode`: 0 is `ENC`, 1 is `DEC` (R73). -/
def coreCommand (mode : BitVec 1) (key block : Block) : Instr :=
  if mode = 0#1 then .enc key block else .dec key block

/-- Every value of `CCMD` is a legal command (R72, R73). -/
def decodeCmd (w : BitVec 257) : Instr :=
  coreCommand (cmdMode w) (blockOfField (cmdKey w)) (blockOfField (cmdBlock w))

/-! ### The micro-operation word -/

/-- `w[7:4]` (R74). -/
def uopOp (w : BitVec 8) : BitVec 4 := w.extractLsb' 4 4

/-- `w[3:0]` (R74). -/
def uopN (w : BitVec 8) : BitVec 4 := w.extractLsb' 0 4

/-- The operations without an operand, by their `op` code (R75). -/
def plainUop (op : BitVec 4) : Option Instr :=
  if op = 0x1#4 then some .kld
  else if op = 0x3#4 then some .ldst
  else if op = 0x5#4 then some .sb
  else if op = 0x6#4 then some .sr
  else if op = 0x7#4 then some .mc
  else if op = 0x8#4 then some .isb
  else if op = 0x9#4 then some .isr
  else if op = 0xa#4 then some .imc
  else if op = 0xb#4 then some .out
  else none

/-- The decoder of R79, total on all 256 words. -/
def decodeUop (w : BitVec 8) : Except Reject Instr :=
  if uopOp w = 0x2#4 then
    if 1 ≤ (uopN w).toNat ∧ (uopN w).toNat ≤ 10 then .ok (.kxr (uopN w)) else .error (.kxrIndex w)
  else if uopOp w = 0x4#4 then
    if (uopN w).toNat ≤ 10 then .ok (.ark (uopN w)) else .error (.arkIndex w)
  else
    match plainUop (uopOp w) with
    | none => .error (.illegalOp w)
    | some i => if uopN w = 0#4 then .ok i else .error (.strayOperand w)

/-- Decoding of either format. -/
def decode : InstrWord → Except Reject Instr
  | .uop w => decodeUop w
  | .cmd w => .ok (decodeCmd w)

/-! ### Encoding -/

/-- A micro-operation word from its two fields (R74). -/
def uopWord (op n : BitVec 4) : BitVec 8 := op.setWidth 8 <<< 4 ||| n.setWidth 8

/-- The word of an instruction, written from R72, R73 and R75. -/
def encode : Instr → InstrWord
  | .enc key block => .cmd (cmdWord 0#1 (fieldOfBlock key) (fieldOfBlock block))
  | .dec key block => .cmd (cmdWord 1#1 (fieldOfBlock key) (fieldOfBlock block))
  | .kld => .uop (uopWord 0x1#4 0#4)
  | .kxr n => .uop (uopWord 0x2#4 n)
  | .ldst => .uop (uopWord 0x3#4 0#4)
  | .ark n => .uop (uopWord 0x4#4 n)
  | .sb => .uop (uopWord 0x5#4 0#4)
  | .sr => .uop (uopWord 0x6#4 0#4)
  | .mc => .uop (uopWord 0x7#4 0#4)
  | .isb => .uop (uopWord 0x8#4 0#4)
  | .isr => .uop (uopWord 0x9#4 0#4)
  | .imc => .uop (uopWord 0xa#4 0#4)
  | .out => .uop (uopWord 0xb#4 0#4)

/-- The instruction of a row of spec/opcode_table.json, from the row's bits read as one number: up to 8 bits are a
`UOP` word (R74), more are a `CCMD` word, whose bit 256 is its most significant (R72; log entry 15). -/
def decodeTableWord (nbits w : Nat) : Option Instr :=
  if nbits ≤ 8 then
    if w >>> 8 = 0 then (decode (.uop (BitVec.ofNat 8 w))).toOption else none
  else
    if w >>> 257 = 0 then (decode (.cmd (BitVec.ofNat 257 w))).toOption else none

end Sys2Proof
end

