-- ==== Sys2Proof/Config.lean ====
section
/-! DEFINITION. What the spec fixes for every instance (R6), and the values it leaves open (R7, R36, R39, R236):
opaque constants without a body, so that no proof can see what they are. The constant tables, which R38 also counts
as configuration, stand in Machine/Tables.lean and Machine/Microcode.lean. -/

namespace Sys2Proof.Config

/-- `KEY_BYTES` (R6). -/
def keyBytes : Nat := 16

/-- `BLOCK_BYTES` (R6). -/
def blockBytes : Nat := 16

/-- `POLY`, the Rijndael reducing polynomial 0x11b as a 9-bit value (R6, R10). -/
def poly : BitVec 9 := 0x11b#9

/-- `MODE_ENCRYPT` (R6). -/
def modeEncrypt : BitVec 1 := 0#1

/-- `MODE_DECRYPT` (R6). -/
def modeDecrypt : BitVec 1 := 1#1

/-- The data registers whose contents the spec leaves unspecified at some time (R36, R39, R230). -/
inductive DataReg where
  | st
  | k
  | bin
  | outb
  | rk (n : Fin 11)
  deriving DecidableEq, Repr

/-- What a data register holds after power-on: R39 says "unspecified" (DESIGN CHOICE, log entry 3). -/
opaque powerOn : DataReg → Block

/-- What `MODE` holds after power-on: R39 says "unspecified" (DESIGN CHOICE, log entry 3). -/
opaque powerOnMode : BitVec 1

/-- FREE VALUE. What a data register holds after an event that leaves it unspecified: `OUT` (R36, R236, the parameter
`SCRUB_ON_DONE`) or a reset (R230). It is a function of a draw number, the register and its old contents, so that both
policies of `SCRUB_ON_DONE` (left as it was, zeroed) are among its possible values (log entries 5 and 6). -/
opaque unspecified : Nat → DataReg → Block → Block

/-- FREE VALUE. What `MODE` holds after a reset (R39, R230; log entry 6). -/
opaque unspecifiedMode : Nat → BitVec 1 → BitVec 1

/-- How far `LAT_ENC` exceeds its least value; open (R7, R235). -/
opaque latEncExcess : Nat

/-- How far `LAT_DEC` exceeds its least value; open (R7, R235). -/
opaque latDecExcess : Nat

/-- `LAT_ENC`, the clock cycles from command start to done of an `ENC`: open, at least 53 (D13). No rule reads it. -/
def latEnc : Nat := 53 + latEncExcess

/-- `LAT_DEC`, the same for a `DEC` (D13). No rule reads it. -/
def latDec : Nat := 53 + latDecExcess

end Sys2Proof.Config
end

