-- ==== Sys2Proof/Machine/State.lean ====
section
/-! DEFINITION. The state of one `CORE` instance (10_state.md R20 to R31), the inputs the host can give it
(30_encoding.md R71, R82, R83; 70_reset_and_hazards.md R230), the reasons a step can stop, and the state after
reset (R39). -/

namespace Sys2Proof.Machine

/-- `STATUS`, 2 bits, all four values used (R24). The codes are in Machine/Flags.lean. -/
inductive Status where
  | idle
  | busy
  | done
  | error
  deriving DecidableEq, Repr

/-- The four typed errors of the boundary, the only exceptions of the hardware (R200). -/
inductive InputError where
  | invalidKeyLength
  | invalidBlockLength
  | invalidByteValue
  | invalidMode
  deriving DecidableEq, Repr

/-- `ERR`, 3 bits: no error or the error that rejected the last command (R26). Values 5 to 7 are never produced
(R26, U14), so the type does not hold them. The codes are in Machine/Flags.lean. -/
inductive ErrCode where
  | none
  | raised (e : InputError)
  deriving DecidableEq, Repr

/-- What the host does to the instance during one step (log entries 2 and 13). -/
inductive HostInput where
  /-- nothing: `start = 0`, no boundary command, no reset -/
  | quiet
  /-- `start = 1` with the three command ports (R82) -/
  | start (mode : BitVec 1) (keyIn blockIn : BitVec 128)
  /-- a boundary command (R71), which has no wire form (R82) -/
  | request (c : BCmd)
  /-- a reset event (R230) -/
  | rst
  deriving DecidableEq, Repr

/-- Why a step faults: there is no reason. Once a command has passed the boundary checks it cannot fail (R209), no
access can be out of range (R50), and a read of a register that nothing has written gives a free value (log entry 4).
Nobody raises a fault; a type without values is safe. -/
inductive Fault where
  deriving DecidableEq, Repr

/-- Why a step or a meaning is refused. -/
inductive Refusal where
  /-- An instruction without a meaning. Raised only by a refused arm of `exec`, of which there is none. Safe. -/
  | notModelled (mnemonic : String)
  /-- A micro-operation word outside the 30 legal ones (R77, R211). Raised by the sequencer on such a word, and by
  `KXR` and `ARK` on a round index out of range (R76). Safe: no run of the hardware fetches one. -/
  | illegalUop (w : BitVec 8)
  /-- `UPC <- UPC + 1` at `UPC = 127`: wrap-around "cannot happen and has no defined meaning" (R23, U8). Raised by
  every micro-operation but `OUT` at that one value of `UPC`. Safe. -/
  | upcWrap
  deriving DecidableEq, Repr

/-- The state of one instance: the registers of R20, and two fields of the model's own (`inbox`, `draws`). The constant
tables and `UROM` are configuration (R38). -/
structure State where
  /-- `ST[0..15]`, the State (R21) -/
  st : Block
  /-- `K[0..15]`, the key latch (R28) -/
  k : Block
  /-- `BIN[0..15]`, the input block latch (R30) -/
  bin : Block
  /-- `RK[0..10][0..15]`, the round-key file (R29) -/
  rk : Vector Block 11
  /-- `OUTB[0..15]`, the output block register (R30) -/
  outb : Block
  /-- `MODE` (R25) -/
  mode : BitVec 1
  /-- `UPC` (R23) -/
  upc : BitVec 7
  /-- `STATUS` (R24) -/
  status : Status
  /-- `ERR` (R26) -/
  err : ErrCode
  /-- the model's own: what the host does in each coming step, first step first; past its end nothing (log entry 2) -/
  inbox : List HostInput
  /-- the model's own: how many draws of free values were made (log entries 5, 6 and 7) -/
  draws : Nat
  deriving DecidableEq, Repr

/-- The state right after reset (R39): `STATUS = IDLE`, `ERR = 0`, `UPC = 0`, every data register unspecified. -/
def State.reset : State where
  st := Config.powerOn .st
  k := Config.powerOn .k
  bin := Config.powerOn .bin
  rk := Vector.ofFn fun n => Config.powerOn (.rk n)
  outb := Config.powerOn .outb
  mode := Config.powerOnMode
  upc := 0#7
  status := .idle
  err := .none
  inbox := []
  draws := 0

end Sys2Proof.Machine
end

