-- ==== Sys2Proof/Machine/Ops.lean ====
section
/-! DEFINITION. The named operations on State that the meanings are made of: register writes, the advance of `UPC`,
command start (R171), the end of a command (R173), taking an exception (R207; there is no return from one, R208), the
reset event (R230) and the taking of one host input. -/

namespace Sys2Proof.Machine

/-- `ST <- b`. -/
def setSt (s : State) (b : Block) : State := { s with st := b }

/-- `RK[n] <- b`; the other ten round keys keep their values (R112). -/
def setRk (s : State) (n : Fin 11) (b : Block) : State := { s with rk := s.rk.set n.val b n.isLt }

/-- `UPC <- UPC + 1`, where the increment has a meaning. -/
def advanced (s : State) : State := { s with upc := s.upc + 1#7 }

/-- `UPC <- UPC + 1`, the end of every micro-operation but `OUT` (R23, R170). At 127 the increment has no defined
meaning and the model refuses (R23, U8; log entry 8). -/
def advance (s : State) : Host.Outcome State Fault Refusal :=
  if s.upc = 127#7 then .refused .upcWrap else .next (advanced s)

/-- `64 * mode`, the entry of a command's program (R171, R177). -/
def entryUpc (mode : BitVec 1) : BitVec 7 := if mode = 0#1 then 0#7 else 64#7

/-- The registers a command start writes (R171). -/
def startedState (s : State) (mode : BitVec 1) (key block : Block) : State :=
  { s with k := key, bin := block, mode := mode, err := .none, upc := entryUpc mode, status := .busy }

/-- Command start (R171): accepted unless `STATUS = BUSY`, when it changes nothing (D18). -/
def startCommand (s : State) (mode : BitVec 1) (key block : Block) : Host.Outcome State Fault Refusal :=
  if s.status = .busy then .next s else .next (startedState s mode key block)

/-- The registers `OUT` writes (R173), and what it leaves unspecified: `K`, `BIN`, `RK`, `ST` (R36, R236; log entry 5).
`OUTB` gets the State as it was. -/
def finishedState (s : State) : State :=
  { s with
    outb := s.st
    status := .done
    st := Config.unspecified s.draws .st s.st
    k := Config.unspecified s.draws .k s.k
    bin := Config.unspecified s.draws .bin s.bin
    rk := Vector.ofFn fun n => Config.unspecified s.draws (.rk n) s.rk[n]
    draws := s.draws + 1 }

/-- TAKING AN EXCEPTION, the one trap entry of this hardware (R207): `ERR <- code(E)`, `STATUS <- ERROR`, and nothing
else: no state is saved, there is no handler, no vector and no return (R208). -/
def raiseError (s : State) (e : InputError) : State := { s with err := .raised e, status := .error }

/-- A reset event (R39, R230): `STATUS = IDLE`, `ERR = 0`, `UPC = 0`, every data register unspecified. It abandons a
running command (log entry 6). -/
def resetEvent (s : State) : State :=
  { s with
    st := Config.unspecified s.draws .st s.st
    k := Config.unspecified s.draws .k s.k
    bin := Config.unspecified s.draws .bin s.bin
    rk := Vector.ofFn fun n => Config.unspecified s.draws (.rk n) s.rk[n]
    outb := Config.unspecified s.draws .outb s.outb
    mode := Config.unspecifiedMode s.draws s.mode
    upc := 0#7
    status := .idle
    err := .none
    draws := s.draws + 1 }

/-- What the host does during this step (log entry 2). -/
def currentInput (s : State) : HostInput := s.inbox.headD .quiet

/-- The step's host input is used up. -/
def popInput (s : State) : State := { s with inbox := s.inbox.tail }

end Sys2Proof.Machine
end

