-- ==== Sys2Proof/Machine/Boundary.lean ====
section
/-! DEFINITION. The boundary checks that stand in front of the core (60_exceptions.md R200 to R206). -/

namespace Sys2Proof.Machine

/-- An element that is not a byte value in [0,255] (R203). -/
def outOfByteRange (z : Int) : Bool := z < 0 || 255 < z

/-- The buffer of a collection whose 16 elements are byte values: byte i is element i (R206). -/
def blockOfColl (c : List Int) : Block := Block.ofFn fun i => BitVec.ofInt 8 (c.getD i.val 0)

/-- `validate` (R206): the checks in the order of the rule, the first that applies is reported; otherwise the core
command with `mode = mode_sel`, `key[i] = key_coll[i]`, `block[i] = block_coll[i]`. -/
def validate (c : BCmd) : Except InputError Instr :=
  if c.keyColl.length ≠ 16 then .error .invalidKeyLength
  else if c.blockColl.length ≠ 16 then .error .invalidBlockLength
  else if c.keyColl.any outOfByteRange then .error .invalidByteValue
  else if c.blockColl.any outOfByteRange then .error .invalidByteValue
  else if c.modeSel ≠ 0 ∧ c.modeSel ≠ 1 then .error .invalidMode
  else .ok (coreCommand (BitVec.ofInt 1 c.modeSel) (blockOfColl c.keyColl) (blockOfColl c.blockColl))

end Sys2Proof.Machine
end

