-- ==== Sys2Proof/Machine/Driver.lean ====
section
/-! DEFINITION. The meanings of `LDST`, `OUT` and of the two commands `ENC` and `DEC` (44_driver.md R171 to R176). A
command's own instruction is command start; the 53 micro-operations it starts are the next steps of the sequencer, one
a step (R170, R175; log entry 1). -/

namespace Sys2Proof.Machine

/-- `LDST` (R172): `ST <- BIN`, index to index. -/
def execLdst (s : State) : Host.Outcome State Fault Refusal := advance (setSt s s.bin)

/-- `OUT` (R173): `OUTB <- ST`, `STATUS <- DONE`, `UPC` unchanged. -/
def execOut (s : State) : Host.Outcome State Fault Refusal := .next (finishedState s)

/-- `ENC key, block` (R171, R175): command start with mode 0. -/
def execEnc (key block : Block) (s : State) : Host.Outcome State Fault Refusal :=
  startCommand s Config.modeEncrypt key block

/-- `DEC key, block` (R171, R176): command start with mode 1. -/
def execDec (key block : Block) (s : State) : Host.Outcome State Fault Refusal :=
  startCommand s Config.modeDecrypt key block

end Sys2Proof.Machine
end

