-- ==== Sys2Proof/Machine/Operands.lean ====
section
/-! DEFINITION. The only operand form of a micro-operation, the round index `n = w[3:0]` (30_encoding.md R76): which
round keys it selects for `ARK n` and `KXR n`, none when it is out of range (R77). -/

namespace Sys2Proof.Machine

/-- `ARK n`, n = 0..10, selects `RK[n]` (R76). -/
def arkOperand (n : BitVec 4) : Option (Fin 11) :=
  if h : n.toNat ≤ 10 then some ⟨n.toNat, by omega⟩ else none

/-- `KXR n`, n = 1..10, selects the source `RK[n-1]` and the destination `RK[n]` (R76). -/
def kxrOperand (n : BitVec 4) : Option (Fin 11 × Fin 11) :=
  if h : 1 ≤ n.toNat ∧ n.toNat ≤ 10 then some (⟨n.toNat - 1, by omega⟩, ⟨n.toNat, by omega⟩) else none

end Sys2Proof.Machine
end

