-- ==== Sys2Proof/Machine/Field.lean ====
section
/-! DEFINITION. GF(2^8) arithmetic, table lookups and the word helpers of the key schedule (40_field_and_tables.md R90
to R102). Every function is total and reads nothing but its arguments and the constant tables (R102). -/

namespace Sys2Proof.Machine

/-- `xtime(a)`, multiplication by 2 (R91): the shifted 9-bit value, reduced by 0x11b when its bit 8 is 1. -/
def xtime (a : Byte) : Byte :=
  let t : BitVec 9 := a.setWidth 9 <<< 1
  (if t.getLsbD 8 then t ^^^ Config.poly else t).setWidth 8

/-- One turn of the loop of R92, at bit `i` of `c`, on the pair `(r, p)`. -/
def gmulTurn (c : Byte) (rp : Byte × Byte) (i : Nat) : Byte × Byte :=
  (if c.getLsbD i then rp.1 ^^^ rp.2 else rp.1, xtime rp.2)

/-- `gmul(a, c)`, the field product (R92): the loop for i in 0..7 from `r = 0`, `p = a`. -/
def gmul (a c : Byte) : Byte := ([0, 1, 2, 3, 4, 5, 6, 7].foldl (gmulTurn c) (0#8, a)).1

/-- `mul2(a) = MUL2[a]` (R93). -/
def mul2 (a : Byte) : Byte := tableRead mul2Table a

/-- `mul3(a) = MUL3[a]` (R93). -/
def mul3 (a : Byte) : Byte := tableRead mul3Table a

/-- `mul9(a) = MUL9[a]` (R93). -/
def mul9 (a : Byte) : Byte := tableRead mul9Table a

/-- `mul11(a) = MUL11[a]` (R93). -/
def mul11 (a : Byte) : Byte := tableRead mul11Table a

/-- `mul13(a) = MUL13[a]` (R93). -/
def mul13 (a : Byte) : Byte := tableRead mul13Table a

/-- `mul14(a) = MUL14[a]` (R93). -/
def mul14 (a : Byte) : Byte := tableRead mul14Table a

/-- `sub(b) = SBOX[b]` (R94). -/
def sub (b : Byte) : Byte := tableRead sboxTable b

/-- `isub(b) = INVSBOX[b]` (R94). -/
def isub (b : Byte) : Byte := tableRead invSboxTable b

/-- `rcon(i) = RCON[i]` (R99), read at the round index of a round key. -/
def rcon (i : Fin 11) : Byte := rconTable.getD i.val 0#8

/-- `wxor(u, v)` (R96). -/
def wxor (u v : Word) : Word := ⟨u.b0 ^^^ v.b0, u.b1 ^^^ v.b1, u.b2 ^^^ v.b2, u.b3 ^^^ v.b3⟩

/-- `subword(w)` (R97). -/
def subword (w : Word) : Word := ⟨sub w.b0, sub w.b1, sub w.b2, sub w.b3⟩

/-- `rotword(w) = (w[1], w[2], w[3], w[0])` (R98). -/
def rotword (w : Word) : Word := ⟨w.b1, w.b2, w.b3, w.b0⟩

/-- `g(w, i)`: rotate, substitute, and the round constant into byte 0 only (R101). -/
def g (w : Word) (i : Fin 11) : Word :=
  let t := subword (rotword w)
  ⟨t.b0 ^^^ rcon i, t.b1, t.b2, t.b3⟩

end Sys2Proof.Machine
end

