-- ==== Sys2Proof/Machine/Layout.lean ====
section
/-! DEFINITION. The row and column layout of the State (10_state.md R22, D1) and the byte-wise views (R53). Every
transform reaches the State only through these. -/

namespace Sys2Proof.Machine

/-- `idx(r, c) = r + 4*c` (R22). -/
def idx (r c : Fin 4) : Fin 16 := ⟨r.val + 4 * c.val, by omega⟩

/-- The row of a flat index: the `r` with `idx(r, c) = i`. -/
def rowOf (i : Fin 16) : Fin 4 := ⟨i.val % 4, by omega⟩

/-- The column of a flat index: the `c` with `idx(r, c) = i`. -/
def colOf (i : Fin 16) : Fin 4 := ⟨i.val / 4, by omega⟩

/-- The byte at row r, column c: `ST[idx(r,c)]` (R22). -/
def cell (s : Block) (r c : Fin 4) : Byte := s.get (idx r c)

/-- The buffer with `f r c` at row r, column c. -/
def ofCells (f : Fin 4 → Fin 4 → Byte) : Block := Block.ofFn fun i => f (rowOf i) (colOf i)

/-- Column c, its bytes at rows 0..3 in order (R22, R134). -/
def column (s : Block) (c : Fin 4) : Word := Word.ofFn fun r => cell s r c

/-- The buffer whose column c is `f c`. -/
def ofColumns (f : Fin 4 → Word) : Block := ofCells fun r c => (f c).get r

/-- The buffer with `f` applied to every byte. -/
def mapBytes (f : Byte → Byte) (s : Block) : Block := Block.ofFn fun i => f (s.get i)

/-- Exclusive-or of two buffers, index to index (R12). -/
def xorBlock (s t : Block) : Block := Block.ofFn fun i => s.get i ^^^ t.get i

end Sys2Proof.Machine
end

