-- ==== Sys2Proof/Machine/Transforms.lean ====
section
/-! DEFINITION. The pure forms of the seven round transforms and of one group of the key schedule (41_key_schedule.md
R112, 42_round_transforms.md R131 to R134, 43_inverse_transforms.md R150 to R152). Each computes the whole new value
from the whole old one (R56, R130). -/

namespace Sys2Proof.Machine

/-- `AddRoundKey(s, k)` (R131). -/
def addRoundKey (s k : Block) : Block := xorBlock s k

/-- `SubBytes(s)` (R132). -/
def subBytes (s : Block) : Block := mapBytes sub s

/-- `ShiftRows(s)`: the byte at column `(c + r) mod 4` of row r arrives at column c (R133; `+` on `Fin 4` is mod 4). -/
def shiftRows (s : Block) : Block := ofCells fun r c => cell s r (c + r)

/-- The column product of R134, matrix `[[2,3,1,1],[1,2,3,1],[1,1,2,3],[3,1,1,2]]`. -/
def mixColumn (a : Word) : Word :=
  ⟨mul2 a.b0 ^^^ mul3 a.b1 ^^^ a.b2 ^^^ a.b3,
   a.b0 ^^^ mul2 a.b1 ^^^ mul3 a.b2 ^^^ a.b3,
   a.b0 ^^^ a.b1 ^^^ mul2 a.b2 ^^^ mul3 a.b3,
   mul3 a.b0 ^^^ a.b1 ^^^ a.b2 ^^^ mul2 a.b3⟩

/-- `MixColumns(s)` (R134). -/
def mixColumns (s : Block) : Block := ofColumns fun c => mixColumn (column s c)

/-- `InvSubBytes(s)` (R150). -/
def invSubBytes (s : Block) : Block := mapBytes isub s

/-- `InvShiftRows(s)`: `ST[idx(r,c)] <- old.ST[idx(r, (c - r) mod 4)]` (R151; `-` on `Fin 4` is mod 4). -/
def invShiftRows (s : Block) : Block := ofCells fun r c => cell s r (c - r)

/-- The column product of R152, matrix `[[14,11,13,9],[9,14,11,13],[13,9,14,11],[11,13,9,14]]`. -/
def invMixColumn (a : Word) : Word :=
  ⟨mul14 a.b0 ^^^ mul11 a.b1 ^^^ mul13 a.b2 ^^^ mul9 a.b3,
   mul9 a.b0 ^^^ mul14 a.b1 ^^^ mul11 a.b2 ^^^ mul13 a.b3,
   mul13 a.b0 ^^^ mul9 a.b1 ^^^ mul14 a.b2 ^^^ mul11 a.b3,
   mul11 a.b0 ^^^ mul13 a.b1 ^^^ mul9 a.b2 ^^^ mul14 a.b3⟩

/-- `InvMixColumns(s)` (R152). -/
def invMixColumns (s : Block) : Block := ofColumns fun c => invMixColumn (column s c)

/-- The map `RK[n-1] -> RK[n]` (R112): `p` is the previous group, `n` the round index. -/
def nextRoundKey (p : Block) (n : Fin 11) : Block :=
  let q0 := wxor (g p.w3 n) p.w0
  let q1 := wxor q0 p.w1
  let q2 := wxor q1 p.w2
  let q3 := wxor q2 p.w3
  ⟨q0, q1, q2, q3⟩

end Sys2Proof.Machine
end

