-- ==== Sys2Proof/Machine/Forward.lean ====
section
/-! DEFINITION. The meanings of `ARK n`, `SB`, `SR`, `MC` (42_round_transforms.md R130 to R134): `ST <- f(old.ST)`. -/

namespace Sys2Proof.Machine

/-- `ARK n` (R131). An index out of range is an illegal word (R77). -/
def execArk (n : BitVec 4) (s : State) : Host.Outcome State Fault Refusal :=
  match arkOperand n with
  | none => .refused (.illegalUop (uopWord 0x4#4 n))
  | some r => advance (setSt s (addRoundKey s.st s.rk[r]))

/-- `SB` (R132). -/
def execSb (s : State) : Host.Outcome State Fault Refusal := advance (setSt s (subBytes s.st))

/-- `SR` (R133). -/
def execSr (s : State) : Host.Outcome State Fault Refusal := advance (setSt s (shiftRows s.st))

/-- `MC` (R134). -/
def execMc (s : State) : Host.Outcome State Fault Refusal := advance (setSt s (mixColumns s.st))

end Sys2Proof.Machine
end

