-- ==== Sys2Proof/Machine/Inverse.lean ====
section
/-! DEFINITION. The meanings of `ISB`, `ISR`, `IMC` (43_inverse_transforms.md R150 to R152): `ST <- f(old.ST)`. -/

namespace Sys2Proof.Machine

/-- `ISB` (R150). -/
def execIsb (s : State) : Host.Outcome State Fault Refusal := advance (setSt s (invSubBytes s.st))

/-- `ISR` (R151). -/
def execIsr (s : State) : Host.Outcome State Fault Refusal := advance (setSt s (invShiftRows s.st))

/-- `IMC` (R152). -/
def execImc (s : State) : Host.Outcome State Fault Refusal := advance (setSt s (invMixColumns s.st))

end Sys2Proof.Machine
end

