-- ==== Sys2Proof/Machine/KeySchedule.lean ====
section
/-! DEFINITION. The meanings of `KLD` and `KXR n` (41_key_schedule.md R111, R112). -/

namespace Sys2Proof.Machine

/-- `KLD` (R111): `RK[0] <- K`. -/
def execKld (s : State) : Host.Outcome State Fault Refusal := advance (setRk s 0 s.k)

/-- `KXR n` (R112): `RK[n] <- next(RK[n-1], n)`. An index out of range is an illegal word (R77). -/
def execKxr (n : BitVec 4) (s : State) : Host.Outcome State Fault Refusal :=
  match kxrOperand n with
  | none => .refused (.illegalUop (uopWord 0x2#4 n))
  | some (src, dst) => advance (setRk s dst (nextRoundKey s.rk[src] dst))

end Sys2Proof.Machine
end

