-- ==== Sys2Proof/Machine/Dispatch.lean ====
section
/-! DEFINITION. One arm per constructor of Instr: which meaning each instruction has. -/

namespace Sys2Proof.Machine

def exec (i : Instr) (s : State) : Host.Outcome State Fault Refusal :=
  match i with
  | .enc key block => Sys2Proof.Machine.execEnc key block s
  | .dec key block => Sys2Proof.Machine.execDec key block s
  | .kld => Sys2Proof.Machine.execKld s
  | .kxr n => Sys2Proof.Machine.execKxr n s
  | .ldst => Sys2Proof.Machine.execLdst s
  | .ark n => Sys2Proof.Machine.execArk n s
  | .sb => Sys2Proof.Machine.execSb s
  | .sr => Sys2Proof.Machine.execSr s
  | .mc => Sys2Proof.Machine.execMc s
  | .isb => Sys2Proof.Machine.execIsb s
  | .isr => Sys2Proof.Machine.execIsr s
  | .imc => Sys2Proof.Machine.execImc s
  | .out => Sys2Proof.Machine.execOut s

end Sys2Proof.Machine
end

