-- ==== Sys2Proof/Machine/Microcode.lean ====
section
/-! DEFINITION. The micro-program ROM `UROM` (44_driver.md R174) and its fetch (R170). -/

namespace Sys2Proof.Machine

/-- Entries 0..52, the encrypt program (R174). -/
def encProgram : List (BitVec 8) :=
  [0x10#8, 0x21#8, 0x22#8, 0x23#8, 0x24#8, 0x25#8, 0x26#8, 0x27#8, 0x28#8, 0x29#8, 0x2a#8, 0x30#8, 0x40#8, 0x50#8, 0x60#8, 0x70#8]
  ++ [0x41#8, 0x50#8, 0x60#8, 0x70#8, 0x42#8, 0x50#8, 0x60#8, 0x70#8, 0x43#8, 0x50#8, 0x60#8, 0x70#8, 0x44#8, 0x50#8, 0x60#8, 0x70#8]
  ++ [0x45#8, 0x50#8, 0x60#8, 0x70#8, 0x46#8, 0x50#8, 0x60#8, 0x70#8, 0x47#8, 0x50#8, 0x60#8, 0x70#8, 0x48#8, 0x50#8, 0x60#8, 0x70#8]
  ++ [0x49#8, 0x50#8, 0x60#8, 0x4a#8, 0xb0#8]

/-- Entries 64..116, the decrypt program (R174). -/
def decProgram : List (BitVec 8) :=
  [0x10#8, 0x21#8, 0x22#8, 0x23#8, 0x24#8, 0x25#8, 0x26#8, 0x27#8, 0x28#8, 0x29#8, 0x2a#8, 0x30#8, 0x4a#8, 0x90#8, 0x80#8, 0x49#8]
  ++ [0xa0#8, 0x90#8, 0x80#8, 0x48#8, 0xa0#8, 0x90#8, 0x80#8, 0x47#8, 0xa0#8, 0x90#8, 0x80#8, 0x46#8, 0xa0#8, 0x90#8, 0x80#8, 0x45#8]
  ++ [0xa0#8, 0x90#8, 0x80#8, 0x44#8, 0xa0#8, 0x90#8, 0x80#8, 0x43#8, 0xa0#8, 0x90#8, 0x80#8, 0x42#8, 0xa0#8, 0x90#8, 0x80#8, 0x41#8]
  ++ [0xa0#8, 0x90#8, 0x80#8, 0x40#8, 0xb0#8]

/-- `UROM[0..127]`: the unused entries 53..63 and 117..127 hold the illegal word 0x00 (R77, R174). -/
def uromTable : List (BitVec 8) :=
  encProgram ++ List.replicate 11 0x00#8 ++ decProgram ++ List.replicate 11 0x00#8

/-- `UROM[UPC]` (R170). -/
def urom (a : BitVec 7) : BitVec 8 := uromTable.getD a.toNat 0x00#8

/-- An index of `UROM` that holds the word `w`, the first in the encrypt program or else in the decrypt program. A word
that stands in neither is an illegal one (all 30 legal words stand there), and the answer is then 53, an entry that
holds the illegal word 0x00 (log entry 15). -/
def uromAddressOf (w : BitVec 8) : BitVec 7 :=
  let a := encProgram.findIdx (fun x => x == w)
  if a < 53 then BitVec.ofNat 7 a
  else
    let b := decProgram.findIdx (fun x => x == w)
    if b < 53 then BitVec.ofNat 7 (64 + b) else 53#7

end Sys2Proof.Machine
end

