-- ==== Sys2Proof/Machine/Sequencer.lean ====
section
/-! DEFINITION. The step of the only agent (44_driver.md R170, R171; 30_encoding.md R83): what one step does with the
host's input of that step, and how a word is placed where the next step fetches. -/

namespace Sys2Proof.Machine

/-- Decode a word and execute it (R170). An illegal word is refused by the name `IllegalUop` (R77, R211). -/
def runWord (w : InstrWord) (s : State) : Host.Outcome State Fault Refusal :=
  match decode w with
  | .ok i => exec i s
  | .error r => .refused (.illegalUop (rejectedWord r))

/-- A boundary command presented while no command runs: every check first, then command start (R171, R205, R206), or
the trap entry (R207). -/
def runRequest (c : BCmd) (s : State) : Host.Outcome State Fault Refusal :=
  match validate c with
  | .ok i => exec i s
  | .error e => .next (raiseError s e)

/-- One step under a given host input. A reset comes first (R230, log entry 13). While `STATUS = BUSY` the sequencer
runs `UROM[UPC]` and a command presented is ignored (R170, R171, R83). Otherwise a command presented is taken, and
without one nothing happens (R170; log entry 12). -/
def stepWith (input : HostInput) (s : State) : Host.Outcome State Fault Refusal :=
  match input with
  | .rst => .next (resetEvent s)
  | .quiet => if s.status = .busy then runWord (.uop (urom s.upc)) s else .next s
  | .start mode keyIn blockIn =>
    if s.status = .busy then runWord (.uop (urom s.upc)) s else runWord (.cmd (cmdWord mode keyIn blockIn)) s
  | .request c => if s.status = .busy then runWord (.uop (urom s.upc)) s else runRequest c s

/-- `s` with a micro-operation word where the next step fetches: a running command whose `UPC` is the index of that word
in the constant `UROM`, and no reset in that step (log entry 15). -/
def placeUop (s : State) (w : BitVec 8) : State :=
  { s with status := .busy, upc := uromAddressOf w, inbox := .quiet :: s.inbox }

/-- `s` with a core command where the next step fetches: on the ports, with no command running (log entry 15). -/
def placeCmd (s : State) (w : BitVec 257) : State :=
  { s with
    status := if s.status = .busy then .idle else s.status
    inbox := .start (cmdMode w) (cmdKey w) (cmdBlock w) :: s.inbox }

end Sys2Proof.Machine
end

