-- ==== Sys2Proof/Machine/Step.lean ====
section
/-! DEFINITION. One step of the machine, and the placing of an instruction where a step fetches it. -/

namespace Sys2Proof.Machine

/-- One step: the host's input of this step is taken from the inbox, and the machine acts under it (R170). -/
def step (s : State) : Host.Outcome State Fault Refusal := stepWith (currentInput s) (popInput s)

/-- `s` with the instruction of a row of spec/opcode_table.json placed so that the very next step runs it: up to 8 bits
are a `UOP` word, more are a `CCMD` word (log entry 15). -/
def State.withFetchWord (s : State) (nbits w : Nat) : State :=
  if nbits ≤ 8 then placeUop s (BitVec.ofNat 8 w) else placeCmd s (BitVec.ofNat 257 w)

end Sys2Proof.Machine
end

