-- ==== Sys2Proof/Machine/Cipher.lean ====
section
/-! DEFINITION. The pure functions the hardware as a whole computes (R2): `expand` (41_key_schedule.md R113),
`encrypt_block` and `decrypt_block` (44_driver.md R175, R176). No step reads them; statements compare the machine
with them. -/

namespace Sys2Proof.Machine

/-- `rk[n]` of `expand(key)`: `rk[0] = key`, `rk[n] = next(rk[n-1], n)` (R113). -/
def roundKey (key : Block) : Nat → Block
  | 0 => key
  | n + 1 => nextRoundKey (roundKey key n) (Fin.ofNat 11 (n + 1))

/-- `expand(key)`, the 11 round keys (R110, R113). -/
def expand (key : Block) : Vector Block 11 := Vector.ofFn fun n => roundKey key n

/-- One inner round of `encrypt_block` (R175, `ROUND r` of R81). -/
def encryptRound (rk : Vector Block 11) (s : Block) (r : Fin 11) : Block :=
  addRoundKey (mixColumns (shiftRows (subBytes s))) rk[r]

/-- `encrypt_block(key, pt)` (R175): rounds 1..9 ascending, no MixColumns in the last. -/
def encryptBlock (key pt : Block) : Block :=
  let rk := expand key
  let s := ([1, 2, 3, 4, 5, 6, 7, 8, 9] : List (Fin 11)).foldl (encryptRound rk) (addRoundKey pt rk[0])
  addRoundKey (shiftRows (subBytes s)) rk[10]

/-- One inner round of `decrypt_block`: InvMixColumns after AddRoundKey (R176, R178, `INVROUND r` of R81). -/
def decryptRound (rk : Vector Block 11) (s : Block) (r : Fin 11) : Block :=
  invMixColumns (addRoundKey (invSubBytes (invShiftRows s)) rk[r])

/-- `decrypt_block(key, ct)` (R176): rounds 9..1 descending, no InvMixColumns in the last. -/
def decryptBlock (key ct : Block) : Block :=
  let rk := expand key
  let s := ([9, 8, 7, 6, 5, 4, 3, 2, 1] : List (Fin 11)).foldl (decryptRound rk) (addRoundKey ct rk[10])
  addRoundKey (invSubBytes (invShiftRows s)) rk[0]

end Sys2Proof.Machine
end

