-- ==== Sys2Proof/Machine/Flags.lean ====
section
/-! DEFINITION. There are no condition codes (R24). The only status is `STATUS` and `ERR`: their codes, the output
ports made from them (R82), and what the host may read (R30, R182, R207). -/

namespace Sys2Proof.Machine

/-- The 2-bit code of `STATUS` (R24). -/
def statusCode : Status → BitVec 2
  | .idle => 0#2
  | .busy => 1#2
  | .done => 2#2
  | .error => 3#2

/-- The code of an error (R200). -/
def inputErrorCode : InputError → BitVec 3
  | .invalidKeyLength => 1#3
  | .invalidBlockLength => 2#3
  | .invalidByteValue => 3#3
  | .invalidMode => 4#3

/-- `ERR[2:0]` (R26), the port `err_code` (R82). -/
def errCode : ErrCode → BitVec 3
  | .none => 0#3
  | .raised e => inputErrorCode e

/-- Port `busy`: 1 exactly when `STATUS = BUSY` (R82). -/
def busyPort (s : State) : Bool := s.status = .busy

/-- Port `done`: 1 exactly when `STATUS = DONE` (R82). -/
def donePort (s : State) : Bool := s.status = .done

/-- Port `error`: 1 exactly when `STATUS = ERROR` (R82). -/
def errorPort (s : State) : Bool := s.status = .error

/-- Port `block_out`: `OUTB` while `done = 1`, and no value to rely on otherwise (R30, R82, HZ2; log entry 10). -/
def blockOut (s : State) : Option (BitVec 128) :=
  if s.status = .done then some (fieldOfBlock s.outb) else none

/-- The answer the host has at the boundary level (R71, R173, R182, R207): `Ok` with 16 integers after `OUT`, `Err`
after a rejection, none before the first command and while one runs. -/
def answer (s : State) : Option (Except InputError (List Int)) :=
  match s.status, s.err with
  | .done, _ => some (.ok (List.ofFn fun i : Fin 16 => (s.outb.get i).toNat))
  | .error, .raised e => some (.error e)
  | _, _ => none

end Sys2Proof.Machine
end

