-- ==== Sys2Proof/Machine/Pseudo.lean ====
section
/-! DEFINITION. The pseudo-instructions, names for fixed sequences without an encoding of their own (30_encoding.md
R81). `UROM` holds the two bodies (44_driver.md R174). -/

namespace Sys2Proof.Machine

/-- `EXPAND` (R81). -/
def expandBody : List Instr :=
  [.kld, .kxr 1#4, .kxr 2#4, .kxr 3#4, .kxr 4#4, .kxr 5#4, .kxr 6#4, .kxr 7#4, .kxr 8#4, .kxr 9#4, .kxr 10#4]

/-- `ROUND r` (R81). -/
def roundBody (r : BitVec 4) : List Instr := [.sb, .sr, .mc, .ark r]

/-- `FINALROUND` (R81). -/
def finalRoundBody : List Instr := [.sb, .sr, .ark 10#4]

/-- `INVROUND r` (R81). -/
def invRoundBody (r : BitVec 4) : List Instr := [.isr, .isb, .ark r, .imc]

/-- `INVFINAL` (R81). -/
def invFinalBody : List Instr := [.isr, .isb, .ark 0#4]

/-- The `ENC` body (R81): rounds 1..9 ascending. -/
def encBody : List Instr :=
  expandBody ++ [.ldst, .ark 0#4] ++ [1#4, 2#4, 3#4, 4#4, 5#4, 6#4, 7#4, 8#4, 9#4].flatMap roundBody
    ++ finalRoundBody ++ [.out]

/-- The `DEC` body (R81): rounds 9..1 descending. -/
def decBody : List Instr :=
  expandBody ++ [.ldst, .ark 10#4] ++ [9#4, 8#4, 7#4, 6#4, 5#4, 4#4, 3#4, 2#4, 1#4].flatMap invRoundBody
    ++ invFinalBody ++ [.out]

end Sys2Proof.Machine
end

