-- ==== Sys2Proof/Safety.lean ====
section
/-! DEFINITION. What counts as a safe run, in the terms the statements use: the invariants of the machine, what an
instruction may leave changed, and the inputs under which a command runs to its end. -/

namespace Sys2Proof.Machine

/-- `UPC` is an entry of the program that `MODE` selects (R23, R174, U8). -/
def InProgram (mode : BitVec 1) (upc : BitVec 7) : Prop :=
  (mode = 0#1 ∧ upc.toNat ≤ 52) ∨ (mode = 1#1 ∧ 64 ≤ upc.toNat ∧ upc.toNat ≤ 116)

/-- The place of an entry in its program, 0..52 (R174). -/
def position (upc : BitVec 7) : Nat := upc.toNat % 64

/-- A running command is inside its own program (R174, U8); `ERR` holds an error exactly while `STATUS = ERROR`
(R24, R26, R171, R207). -/
structure ControlInv (s : State) : Prop where
  inProgram : s.status = .busy → InProgram s.mode s.upc
  errorIffErr : s.status = .error ↔ s.err ≠ .none

/-- While a command runs, every round key its program has passed is the one of `expand(K)` (R29, R113, R231). -/
def ScheduleInv (s : State) : Prop :=
  s.status = .busy → ∀ n : Fin 11, n.val < position s.upc → s.rk[n] = roundKey s.k n

/-- The invariant of the machine. -/
def Inv (s : State) : Prop := ControlInv s ∧ ScheduleInv s

/-- No reset arrives in the next `n` steps. Commands may: they are ignored while `STATUS = BUSY` (HZ1). -/
def NoResetFor (n : Nat) (inputs : List HostInput) : Prop := HostInput.rst ∉ inputs.take n

/-- The model's own fields are as before. -/
structure SameModelFields (s t : State) : Prop where
  inbox : t.inbox = s.inbox
  draws : t.draws = s.draws

/-- Everything but `ST` and `UPC` is as before. -/
structure SameButSt (s t : State) : Prop extends SameModelFields s t where
  k : t.k = s.k
  bin : t.bin = s.bin
  rk : t.rk = s.rk
  outb : t.outb = s.outb
  mode : t.mode = s.mode
  status : t.status = s.status
  err : t.err = s.err

/-- Everything but `RK[n]` and `UPC` is as before. -/
structure SameButRk (n : Fin 11) (s t : State) : Prop extends SameModelFields s t where
  st : t.st = s.st
  k : t.k = s.k
  bin : t.bin = s.bin
  rk : ∀ m : Fin 11, m ≠ n → t.rk[m] = s.rk[m]
  outb : t.outb = s.outb
  mode : t.mode = s.mode
  status : t.status = s.status
  err : t.err = s.err

/-- The instructions of a list executed one after the other, stopping at the first that gives no next state. -/
def execAll : List Instr → State → Host.Outcome State Fault Refusal
  | [], s => .next s
  | i :: rest, s =>
    match exec i s with
    | .next t => execAll rest t
    | .fault f => .fault f
    | .refused r => .refused r

/-- `k` steps of the machine, stopping at the first that gives no next state. -/
def runSteps : Nat → State → Host.Outcome State Fault Refusal
  | 0, s => .next s
  | k + 1, s =>
    match step s with
    | .next t => runSteps k t
    | .fault f => .fault f
    | .refused r => .refused r

/-- The matrix of `MC` as R134 prints it: row r, entry j. -/
def forwardMatrix (r j : Fin 4) : Byte :=
  ([[2#8, 3#8, 1#8, 1#8], [1#8, 2#8, 3#8, 1#8], [1#8, 1#8, 2#8, 3#8], [3#8, 1#8, 1#8, 2#8]].getD r.val []).getD j.val 0#8

/-- The matrix of `IMC` as R152 prints it: row r, entry j. -/
def inverseMatrix (r j : Fin 4) : Byte :=
  ([[14#8, 11#8, 13#8, 9#8], [9#8, 14#8, 11#8, 13#8], [13#8, 9#8, 14#8, 11#8], [11#8, 13#8, 9#8, 14#8]].getD r.val
    []).getD j.val 0#8

/-- Entry r of the field product of a matrix and a column (R134), computed with `gmul` and no table. -/
def columnProduct (m : Fin 4 → Fin 4 → Byte) (s : Block) (r c : Fin 4) : Byte :=
  gmul (cell s 0 c) (m r 0) ^^^ gmul (cell s 1 c) (m r 1) ^^^ gmul (cell s 2 c) (m r 2) ^^^ gmul (cell s 3 c) (m r 3)

/-- A schedule seen as 44 words: `w[4n + j] = RKW[n][j]` (R29, R114). -/
def flatWord (rk : Vector Block 11) (i : Nat) : Word :=
  rk[Fin.ofNat 11 (i / 4)].word (Fin.ofNat 4 i)

/-- The affine map of the S-box (R32): `y ^ rotl8(y,1) ^ rotl8(y,2) ^ rotl8(y,3) ^ rotl8(y,4) ^ 0x63`. -/
def sboxAffine (y : Byte) : Byte :=
  y ^^^ y.rotateLeft 1 ^^^ y.rotateLeft 2 ^^^ y.rotateLeft 3 ^^^ y.rotateLeft 4 ^^^ 0x63#8

/-- When an error applies to a boundary command (R201 to R204), whatever other error applies too. -/
def Applies (c : BCmd) : InputError → Prop
  | .invalidKeyLength => c.keyColl.length ≠ 16
  | .invalidBlockLength => c.blockColl.length ≠ 16
  | .invalidByteValue => ∃ z ∈ c.keyColl ++ c.blockColl, z < 0 ∨ 255 < z
  | .invalidMode => c.modeSel ≠ 0 ∧ c.modeSel ≠ 1

end Sys2Proof.Machine
end

