-- ==== Sys2Proof/Certificates/Slice0/Obligations.lean ====
section
/-! DEFINITION. The statements about the model, one `def Obligations.<Name> : Prop` each. -/

open Sys2Proof Sys2Proof.Machine

/-! ### Reset -/

/-- R39, R230: after reset `STATUS = IDLE`, `ERR = 0`, `UPC = 0`, and there is no answer and no output. -/
def Obligations.ResetLeavesControlRegisters : Prop :=
  statusCode State.reset.status = 0#2 ∧ errCode State.reset.err = 0#3 ∧ State.reset.upc = 0#7 ∧
    answer State.reset = none ∧ blockOut State.reset = none

/-- R230: a reset in any state, a running command's included, leaves the control registers at their reset values and no
output. Nothing is said of the data registers. That it comes before any other event of its step is the model's
(log entry 13). -/
def Obligations.ResetEventAbandonsTheCommand : Prop :=
  ∀ s : State, currentInput s = .rst →
    ∃ t, step s = .next t ∧ t.status = .idle ∧ t.err = .none ∧ t.upc = 0#7 ∧ answer t = none ∧ blockOut t = none

/-! ### Encoding -/

/-- R72, R75: words written out from the opcode map, one of every operation, and two core commands. -/
def Obligations.DecodeOfSampleWords : Prop :=
  decode (.uop 0b00010000#8) = .ok .kld ∧ decode (.uop 0b00100001#8) = .ok (.kxr 1#4) ∧
  decode (.uop 0b00101010#8) = .ok (.kxr 10#4) ∧ decode (.uop 0b00110000#8) = .ok .ldst ∧
  decode (.uop 0b01000000#8) = .ok (.ark 0#4) ∧ decode (.uop 0b01001010#8) = .ok (.ark 10#4) ∧
  decode (.uop 0b01010000#8) = .ok .sb ∧ decode (.uop 0b01100000#8) = .ok .sr ∧
  decode (.uop 0b01110000#8) = .ok .mc ∧ decode (.uop 0b10000000#8) = .ok .isb ∧
  decode (.uop 0b10010000#8) = .ok .isr ∧ decode (.uop 0b10100000#8) = .ok .imc ∧
  decode (.uop 0b10110000#8) = .ok .out ∧
  decode (.cmd 0x000102030405060708090a0b0c0d0e0f00112233445566778899aabbccddeeff#257) =
    .ok (.enc (Block.ofFn fun i => BitVec.ofNat 8 i.val) (Block.ofFn fun i => BitVec.ofNat 8 (17 * i.val))) ∧
  decode (.cmd 0x1000102030405060708090a0b0c0d0e0f00112233445566778899aabbccddeeff#257) =
    .ok (.dec (Block.ofFn fun i => BitVec.ofNat 8 i.val) (Block.ofFn fun i => BitVec.ofNat 8 (17 * i.val)))

/-- R79: which words decode to what, for all 256 words, and that exactly the 30 listed words decode. -/
def Obligations.DecoderFollowsTheOpcodeMap : Prop :=
  (∀ w : BitVec 8, 0x2#4 = uopOp w → 1 ≤ (uopN w).toNat → (uopN w).toNat ≤ 10 → decode (.uop w) = .ok (.kxr (uopN w))) ∧
  (∀ w : BitVec 8, 0x4#4 = uopOp w → (uopN w).toNat ≤ 10 → decode (.uop w) = .ok (.ark (uopN w))) ∧
  decode (.uop 0x10#8) = .ok .kld ∧ decode (.uop 0x30#8) = .ok .ldst ∧ decode (.uop 0x50#8) = .ok .sb ∧
  decode (.uop 0x60#8) = .ok .sr ∧ decode (.uop 0x70#8) = .ok .mc ∧ decode (.uop 0x80#8) = .ok .isb ∧
  decode (.uop 0x90#8) = .ok .isr ∧ decode (.uop 0xa0#8) = .ok .imc ∧ decode (.uop 0xb0#8) = .ok .out ∧
  (∀ w : BitVec 8, (decode (.uop w)).toBool = true ↔
    w ∈ [0x10#8, 0x21#8, 0x22#8, 0x23#8, 0x24#8, 0x25#8, 0x26#8, 0x27#8, 0x28#8, 0x29#8, 0x2a#8, 0x30#8, 0x40#8, 0x41#8,
      0x42#8, 0x43#8, 0x44#8, 0x45#8, 0x46#8, 0x47#8, 0x48#8, 0x49#8, 0x4a#8, 0x50#8, 0x60#8, 0x70#8, 0x80#8, 0x90#8,
      0xa0#8, 0xb0#8])

/-- R72 to R79: decoding the word of a well-formed instruction gives the instruction back, every operand at every value. -/
def Obligations.DecodeOfEncodeIsTheInstruction : Prop :=
  ∀ i : Instr, i.wf = true → decode (encode i) = .ok i

/-- R72 to R79: each legal word has one meaning: the word of the instruction a word decodes to is that word, and that
instruction is well-formed. -/
def Obligations.EncodeOfDecodeIsTheWord : Prop :=
  ∀ (w : InstrWord) (i : Instr), decode w = .ok i → encode i = w ∧ i.wf = true

/-- R72: every `CCMD` is legal; its mode bit, key bytes and block bytes stand at `[256]`, `[255-8i:248-8i]` and
`[127-8i:120-8i]`; the answer's byte i is at `[127-8i:120-8i]`. -/
def Obligations.CommandWordCarriesModeKeyBlock : Prop :=
  (∀ w : BitVec 257, ∃ key block : Block,
    decode (.cmd w) = .ok (if w.getLsbD 256 then .dec key block else .enc key block) ∧
    (∀ i : Fin 16, key.get i = w.extractLsb' (248 - 8 * i.val) 8) ∧
    (∀ i : Fin 16, block.get i = w.extractLsb' (120 - 8 * i.val) 8)) ∧
  (∀ s : State, s.status = .done →
    ∃ x, blockOut s = some x ∧ ∀ i : Fin 16, x.extractLsb' (120 - 8 * i.val) 8 = s.outb.get i)

/-! ### The step -/

/-- R170, R171: a step runs the decoded instruction: the word at `UROM[UPC]` while a command runs, the command on the
ports otherwise. What the step adds is that the host's input of that step is used up. -/
def Obligations.StepRunsTheDecodedInstruction : Prop :=
  (∀ (s : State) (i : Instr), currentInput s ≠ .rst → s.status = .busy →
    decode (.uop (urom s.upc)) = .ok i → step s = exec i (popInput s)) ∧
  (∀ (s : State) (m : BitVec 1) (keyIn blockIn : BitVec 128) (i : Instr), currentInput s = .start m keyIn blockIn →
    s.status ≠ .busy → decode (.cmd (cmdWord m keyIn blockIn)) = .ok i → step s = exec i (popInput s))

/-- The word of a table row that the decoder accepts runs as the very next step, from every state (log entry 15). -/
def Obligations.PlacedWordRunsNext : Prop :=
  ∀ (s : State) (nbits w : Nat) (i : Instr), decodeTableWord nbits w = some i →
    step (s.withFetchWord nbits w) = exec i (popInput (s.withFetchWord nbits w))

/-- R77, R211: an illegal word at `UROM[UPC]` is refused as `IllegalUop` with that word, and so are `KXR` and `ARK` with
a round index out of range. -/
def Obligations.IllegalWordIsRefused : Prop :=
  (∀ (s : State) (r : Reject), currentInput s ≠ .rst → s.status = .busy → decode (.uop (urom s.upc)) = .error r →
    step s = .refused (.illegalUop (urom s.upc))) ∧
  (∀ (s : State) (n : BitVec 4), n.toNat = 0 ∨ 10 < n.toNat →
    exec (.kxr n) s = .refused (.illegalUop (0x20#8 + n.setWidth 8))) ∧
  (∀ (s : State) (n : BitVec 4), 10 < n.toNat →
    exec (.ark n) s = .refused (.illegalUop (0x40#8 + n.setWidth 8)))

/-- Without a command running and without one presented, a step changes nothing but the model's own list of inputs.
That such a step is a next state at all is the model's reading (log entry 12). -/
def Obligations.StepWithoutCommandDoesNothing : Prop :=
  ∀ s : State, s.status ≠ .busy → currentInput s = .quiet → step s = .next { s with inbox := s.inbox.tail }

/-- R171, R83, HZ1: a command presented while `STATUS = BUSY` changes nothing: the step is the one with no command, and
the command's own meaning leaves the state as it is. For a boundary command this is the model's reading (log entry
11). -/
def Obligations.CommandGivenWhileBusyIsIgnored : Prop :=
  (∀ (s : State) (input : HostInput) (rest : List HostInput), s.status = .busy → input ≠ .rst →
    step { s with inbox := input :: rest } = step { s with inbox := .quiet :: rest }) ∧
  (∀ (s : State) (m : BitVec 1) (key block : Block), s.status = .busy → exec (coreCommand m key block) s = .next s)

/-! ### Commands -/

/-- R171: command start latches key, block and mode, clears `ERR`, sets `UPC` to `64 * mode` and `STATUS` to `BUSY`; a
command while `BUSY` changes nothing; a boundary command is started only when every check has passed. -/
def Obligations.CommandStartLatchesItsInputs : Prop :=
  (∀ (s : State) (m : BitVec 1) (key block : Block), s.status ≠ .busy →
    ∃ t, exec (if m = 0#1 then .enc key block else .dec key block) s = .next t ∧
      (∀ i, t.k.get i = key.get i) ∧ (∀ i, t.bin.get i = block.get i) ∧ t.mode = m ∧ t.err = .none ∧
      t.upc.toNat = 64 * m.toNat ∧ t.status = .busy) ∧
  (∀ (s : State) (key block : Block), s.status = .busy →
    exec (.enc key block) s = .next s ∧ exec (.dec key block) s = .next s) ∧
  (∀ (s t : State) (c : BCmd), s.status ≠ .busy → currentInput s = .request c → step s = .next t →
    t.status = .busy → ∃ i, validate c = .ok i)

/-- R175: `ENC` from any state without a running command answers a next state, and the 53 steps it starts end with
`STATUS = DONE`, `ERR = 0` and `OUTB = encrypt_block(key, block)`, whatever commands the host presents meanwhile. -/
def Obligations.EncCommandEncryptsItsBlock : Prop :=
  ∀ (s : State) (key block : Block), s.status ≠ .busy → NoResetFor 53 s.inbox →
    ∃ t u, exec (.enc key block) s = .next t ∧ runSteps 53 t = .next u ∧ u.outb = encryptBlock key block ∧
      u.status = .done ∧ u.err = .none ∧ u.mode = 0#1 ∧ u.upc = 52#7 ∧ u.inbox = s.inbox.drop 53

/-- R176: the same of `DEC` and `decrypt_block`. -/
def Obligations.DecCommandDecryptsItsBlock : Prop :=
  ∀ (s : State) (key block : Block), s.status ≠ .busy → NoResetFor 53 s.inbox →
    ∃ t u, exec (.dec key block) s = .next t ∧ runSteps 53 t = .next u ∧ u.outb = decryptBlock key block ∧
      u.status = .done ∧ u.err = .none ∧ u.mode = 1#1 ∧ u.upc = 116#7 ∧ u.inbox = s.inbox.drop 53

/-- R177, R235: a started command is `BUSY` at entry `64 * mode + j` of `UROM` after j steps, for j = 0..52, and `DONE`
after exactly 53. -/
def Obligations.CommandTakesFiftyThreeSteps : Prop :=
  ∀ (s t : State) (m : BitVec 1) (key block : Block), s.status ≠ .busy → NoResetFor 53 s.inbox →
    exec (coreCommand m key block) s = .next t →
    (∀ j, j ≤ 52 → ∃ u, runSteps j t = .next u ∧ u.status = .busy ∧ u.upc.toNat = 64 * m.toNat + j) ∧
    (∃ u, runSteps 53 t = .next u ∧ u.status = .done)

/-! ### Micro-operations: what each computes, and where it completes -/

/-- R111: `KLD`, word 0x10, copies `K` to `RK[0]`, advances `UPC` and writes nothing else. -/
def Obligations.KldCopiesTheKey : Prop :=
  decode (.uop 0x10#8) = .ok .kld ∧
  ∀ s : State, s.upc ≠ 127#7 →
    ∃ t, exec .kld s = .next t ∧ (∀ i, t.rk[0].get i = s.k.get i) ∧ t.upc = s.upc + 1#7 ∧ SameButRk 0 s t

/-- R112: `KXR n`, word 0x20 + n, makes `RK[n]` from `RK[n-1]` word by word, advances `UPC` and writes nothing else,
`RK[n-1]` included; the constants of n = 9 and 10 are 0x1b and 0x36; n = 0 and n above 10 are illegal. -/
def Obligations.KxrDerivesTheNextRoundKey : Prop :=
  (∀ (s : State) (n : BitVec 4) (src dst : Fin 11), dst.val = n.toNat → src.val + 1 = n.toNat →
    decode (.uop (0x20#8 + n.setWidth 8)) = .ok (.kxr n) ∧
    (s.upc ≠ 127#7 →
      ∃ t, exec (.kxr n) s = .next t ∧
        t.rk[dst].word 0 = wxor (g (s.rk[src].word 3) dst) (s.rk[src].word 0) ∧
        t.rk[dst].word 1 = wxor (t.rk[dst].word 0) (s.rk[src].word 1) ∧
        t.rk[dst].word 2 = wxor (t.rk[dst].word 1) (s.rk[src].word 2) ∧
        t.rk[dst].word 3 = wxor (t.rk[dst].word 2) (s.rk[src].word 3) ∧
        t.rk[src] = s.rk[src] ∧ t.upc = s.upc + 1#7 ∧ SameButRk dst s t)) ∧
  rcon 9 = 0x1b#8 ∧ rcon 10 = 0x36#8 ∧
  (∀ n : BitVec 4, n.toNat = 0 ∨ 10 < n.toNat → ∃ e, decode (.uop (0x20#8 + n.setWidth 8)) = .error e)

/-- R172: `LDST`, word 0x30, copies `BIN` to `ST` index to index, advances `UPC` and writes nothing else. -/
def Obligations.LdstLoadsTheState : Prop :=
  decode (.uop 0x30#8) = .ok .ldst ∧
  ∀ s : State, s.upc ≠ 127#7 →
    ∃ t, exec .ldst s = .next t ∧ (∀ i, t.st.get i = s.bin.get i) ∧ t.upc = s.upc + 1#7 ∧ SameButSt s t

/-- R173: `OUT`, word 0xb0, copies `ST` to `OUTB`, sets `STATUS` to `DONE` and leaves `UPC`, `MODE` and `ERR`; the
boundary answer is `Ok` with those bytes as integers. What it leaves in `K`, `BIN`, `RK` and `ST` is unspecified
(R36), so nothing is said of it. -/
def Obligations.OutDeliversTheState : Prop :=
  decode (.uop 0xb0#8) = .ok .out ∧
  ∀ s : State,
    ∃ t, exec .out s = .next t ∧ (∀ i, t.outb.get i = s.st.get i) ∧ t.status = .done ∧ t.upc = s.upc ∧
      t.mode = s.mode ∧ t.err = s.err ∧ answer t = some (.ok (List.ofFn fun i : Fin 16 => ((s.st.get i).toNat : Int)))

/-- R131: `ARK n`, word 0x40 + n, XORs `RK[n]` into `ST` byte by byte; it is its own inverse; a zero round key leaves
`ST`, and `ST` itself as round key clears it; n above 10 is illegal. -/
def Obligations.ArkXorsTheRoundKey : Prop :=
  (∀ (s : State) (n : BitVec 4) (r : Fin 11), r.val = n.toNat →
    decode (.uop (0x40#8 + n.setWidth 8)) = .ok (.ark n) ∧
    (s.upc ≠ 127#7 →
      ∃ t, exec (.ark n) s = .next t ∧ (∀ i, t.st.get i = s.st.get i ^^^ s.rk[r].get i) ∧
        t.upc = s.upc + 1#7 ∧ SameButSt s t ∧
        ((∀ i, s.rk[r].get i = 0#8) → t.st = s.st) ∧ (s.rk[r] = s.st → ∀ i, t.st.get i = 0#8))) ∧
  (∀ s k : Block, addRoundKey (addRoundKey s k) k = s) ∧
  (∀ n : BitVec 4, 10 < n.toNat → ∃ e, decode (.uop (0x40#8 + n.setWidth 8)) = .error e)

/-- R132: `SB`, word 0x50, replaces each byte of `ST` by its S-box image; no byte is ever left unchanged; `ISB` is its
inverse. -/
def Obligations.SbSubstitutesEveryByte : Prop :=
  decode (.uop 0x50#8) = .ok .sb ∧
  ∀ s : State, s.upc ≠ 127#7 →
    ∃ t, exec .sb s = .next t ∧ (∀ i, t.st.get i = sboxTable.getD (s.st.get i).toNat 0#8) ∧
      (∀ i, t.st.get i ≠ s.st.get i) ∧ invSubBytes t.st = s.st ∧ t.upc = s.upc + 1#7 ∧
      SameButSt s t

/-- R133: `SR`, word 0x60, rotates row r left by r positions; row 0 never moves; four times is the identity; a State
whose rows are constant is unchanged; `ISR` is its inverse. -/
def Obligations.SrRotatesTheRowsLeft : Prop :=
  decode (.uop 0x60#8) = .ok .sr ∧
  (∀ s : State, s.upc ≠ 127#7 →
    ∃ t, exec .sr s = .next t ∧
      (∀ r c c' : Fin 4, c'.val = (c.val + r.val) % 4 → t.st.get (idx r c) = s.st.get (idx r c')) ∧
      (∀ c, t.st.get (idx 0 c) = s.st.get (idx 0 c)) ∧ invShiftRows t.st = s.st ∧ t.upc = s.upc + 1#7 ∧
      SameButSt s t) ∧
  (∀ s : Block, shiftRows (shiftRows (shiftRows (shiftRows s))) = s) ∧
  (∀ s : Block, (∀ r c, cell s r c = cell s r 0) → shiftRows s = s)

/-- R134: `MC`, word 0x70, multiplies every column by the printed matrix over GF(2^8), computed here with `gmul` and no
table; a zero column stays zero and a column of four equal bytes is unchanged; `MC` is linear; `IMC` is its inverse. -/
def Obligations.McMixesEveryColumn : Prop :=
  decode (.uop 0x70#8) = .ok .mc ∧
  (∀ s : State, s.upc ≠ 127#7 →
    ∃ t, exec .mc s = .next t ∧ (∀ r c, t.st.get (idx r c) = columnProduct forwardMatrix s.st r c) ∧
      (∀ c x, (∀ r, cell s.st r c = x) → ∀ r, cell t.st r c = x) ∧ invMixColumns t.st = s.st ∧
      t.upc = s.upc + 1#7 ∧ SameButSt s t) ∧
  (∀ a b : Block, mixColumns (xorBlock a b) = xorBlock (mixColumns a) (mixColumns b))

/-- R150: `ISB`, word 0x80, replaces each byte of `ST` by its inverse S-box image; it and `SB` undo each other. -/
def Obligations.IsbSubstitutesEveryByteBack : Prop :=
  decode (.uop 0x80#8) = .ok .isb ∧
  (∀ s : State, s.upc ≠ 127#7 →
    ∃ t, exec .isb s = .next t ∧ (∀ i, t.st.get i = invSboxTable.getD (s.st.get i).toNat 0#8) ∧
      t.upc = s.upc + 1#7 ∧ SameButSt s t) ∧
  (∀ s : Block, invSubBytes (subBytes s) = s ∧ subBytes (invSubBytes s) = s)

/-- R151: `ISR`, word 0x90, rotates row r right by r positions; row 0 never moves; it and `SR` undo each other; row 2
moves alike under both. -/
def Obligations.IsrRotatesTheRowsRight : Prop :=
  decode (.uop 0x90#8) = .ok .isr ∧
  (∀ s : State, s.upc ≠ 127#7 →
    ∃ t, exec .isr s = .next t ∧
      (∀ r c c' : Fin 4, c'.val = (c.val + r.val) % 4 → t.st.get (idx r c') = s.st.get (idx r c)) ∧
      (∀ c, t.st.get (idx 0 c) = s.st.get (idx 0 c)) ∧ t.upc = s.upc + 1#7 ∧ SameButSt s t) ∧
  (∀ s : Block, invShiftRows (shiftRows s) = s ∧ shiftRows (invShiftRows s) = s) ∧
  (∀ (s : Block) (c : Fin 4), cell (shiftRows s) 2 c = cell (invShiftRows s) 2 c)

/-- R152: `IMC`, word 0xa0, multiplies every column by the printed inverse matrix over GF(2^8), computed here with
`gmul` and no table; a column of equal bytes is unchanged; it is linear; it and `MC` undo each other (a clause the
spec marks as derived). -/
def Obligations.ImcMixesEveryColumnBack : Prop :=
  decode (.uop 0xa0#8) = .ok .imc ∧
  (∀ s : State, s.upc ≠ 127#7 →
    ∃ t, exec .imc s = .next t ∧ (∀ r c, t.st.get (idx r c) = columnProduct inverseMatrix s.st r c) ∧
      (∀ c x, (∀ r, cell s.st r c = x) → ∀ r, cell t.st r c = x) ∧
      t.upc = s.upc + 1#7 ∧ SameButSt s t) ∧
  (∀ a b : Block, invMixColumns (xorBlock a b) = xorBlock (invMixColumns a) (invMixColumns b)) ∧
  (∀ s : Block, invMixColumns (mixColumns s) = s ∧ mixColumns (invMixColumns s) = s)

/-- R112, R133, R151: the byte form of `KXR n` and the flat-index forms of `SR` and `ISR`, which the spec marks as
derived from its other rules. -/
def Obligations.ByteAndFlatIndexForms : Prop :=
  (∀ (s t : State) (n : BitVec 4) (src dst : Fin 11), dst.val = n.toNat → src.val + 1 = n.toNat →
    exec (.kxr n) s = .next t →
      t.rk[dst].get 0 = s.rk[src].get 0 ^^^ sub (s.rk[src].get 13) ^^^ rcon dst ∧
      t.rk[dst].get 1 = s.rk[src].get 1 ^^^ sub (s.rk[src].get 14) ∧
      t.rk[dst].get 2 = s.rk[src].get 2 ^^^ sub (s.rk[src].get 15) ∧
      t.rk[dst].get 3 = s.rk[src].get 3 ^^^ sub (s.rk[src].get 12) ∧
      (∀ i j : Fin 16, i.val = j.val + 4 → t.rk[dst].get i = t.rk[dst].get j ^^^ s.rk[src].get i)) ∧
  (∀ s t : State, exec .sr s = .next t →
    ∀ i j : Fin 16, j.val = (i.val + 4 * (i.val % 4)) % 16 → t.st.get i = s.st.get j) ∧
  (∀ s t : State, exec .isr s = .next t →
    ∀ i j : Fin 16, j.val = (i.val + 16 - 4 * (i.val % 4)) % 16 → t.st.get i = s.st.get j)

/-- R23, U8: every micro-operation but `OUT` that completes ends with `UPC + 1` as a number, so `UPC` never wraps, and
at 127, where the increment has no defined meaning, it is refused by name (the model's choice, log entry 8); `OUT`
leaves `UPC`. -/
def Obligations.UopsAdvanceUpcWithoutWrap : Prop :=
  ∀ (s : State) (i : Instr), i.wf = true → (∀ m key block, i ≠ coreCommand m key block) → i ≠ .out →
    (s.upc ≠ 127#7 → ∃ t, exec i s = .next t ∧ t.upc.toNat = s.upc.toNat + 1) ∧
    (s.upc = 127#7 → exec i s = .refused .upcWrap)

/-! ### Frames -/

/-- R20, R130: the micro-operations that write `ST` change nothing but `ST` and `UPC`. -/
def Obligations.TransformFrame : Prop :=
  ∀ (i : Instr) (s t : State),
    (i = .ldst ∨ (∃ n, i = .ark n) ∨ i = .sb ∨ i = .sr ∨ i = .mc ∨ i = .isb ∨ i = .isr ∨ i = .imc) →
    exec i s = .next t → SameButSt s t

/-- R20, R111, R112: `KLD` changes nothing but `RK[0]` and `UPC`, `KXR n` nothing but `RK[n]` and `UPC`. -/
def Obligations.KeyScheduleFrame : Prop :=
  (∀ s t : State, exec .kld s = .next t → SameButRk 0 s t) ∧
  (∀ (s t : State) (n : BitVec 4) (dst : Fin 11), dst.val = n.toNat → exec (.kxr n) s = .next t → SameButRk dst s t)

/-- R20, R171, R173: a command start changes no `ST`, `RK` or `OUTB`; `OUT` changes no `MODE`, `UPC` or `ERR` (what it
leaves in `K`, `BIN`, `RK` and `ST` is unspecified, R36). -/
def Obligations.CommandAndOutFrame : Prop :=
  (∀ (m : BitVec 1) (key block : Block) (s t : State), exec (coreCommand m key block) s = .next t →
    t.st = s.st ∧ t.rk = s.rk ∧ t.outb = s.outb ∧ SameModelFields s t) ∧
  (∀ s t : State, exec .out s = .next t → t.mode = s.mode ∧ t.upc = s.upc ∧ t.err = s.err ∧ t.inbox = s.inbox)

/-! ### Algebra of the transforms and of the key schedule -/

/-- R153: the inverse pairs, on the machine: one micro-operation and then its inverse leave `ST` as it was. -/
def Obligations.InversePairsRestoreTheState : Prop :=
  ∀ (i j : Instr) (s t u : State),
    ((i = .sb ∧ j = .isb) ∨ (i = .isb ∧ j = .sb) ∨ (i = .sr ∧ j = .isr) ∨ (i = .isr ∧ j = .sr) ∨
      (i = .mc ∧ j = .imc) ∨ (i = .imc ∧ j = .mc) ∨ (∃ n, i = .ark n ∧ j = .ark n)) →
    exec i s = .next t → exec j t = .next u → u.st = s.st

/-- R135: `SB` and `SR` commute, and so do `ISB` and `ISR`; `ARK` commutes with `SR` (with `ISR`) exactly when the
round key is unchanged by the same rotation, and in general not with `SB`, `ISB`, `MC`, `IMC`. -/
def Obligations.WhichTransformsCommute : Prop :=
  (∀ s : Block, subBytes (shiftRows s) = shiftRows (subBytes s)) ∧
  (∀ s : Block, invSubBytes (invShiftRows s) = invShiftRows (invSubBytes s)) ∧
  (∀ k : Block, (∀ s, shiftRows (addRoundKey s k) = addRoundKey (shiftRows s) k) ↔ shiftRows k = k) ∧
  (∀ k : Block, (∀ s, invShiftRows (addRoundKey s k) = addRoundKey (invShiftRows s) k) ↔ invShiftRows k = k) ∧
  (∃ s k : Block, subBytes (addRoundKey s k) ≠ addRoundKey (subBytes s) k) ∧
  (∃ s k : Block, invSubBytes (addRoundKey s k) ≠ addRoundKey (invSubBytes s) k) ∧
  (∃ s k : Block, mixColumns (addRoundKey s k) ≠ addRoundKey (mixColumns s) k) ∧
  (∃ s k : Block, invMixColumns (addRoundKey s k) ≠ addRoundKey (invMixColumns s) k)

/-- R114: `expand` in its flat form of 44 words. -/
def Obligations.ExpandAsFlatWords : Prop :=
  ∀ key : Block,
    (∀ j : Fin 4, flatWord (expand key) j.val = key.word j) ∧
    (∀ i, 4 ≤ i → i ≤ 43 → i % 4 = 0 →
      flatWord (expand key) i =
        wxor (flatWord (expand key) (i - 4)) (g (flatWord (expand key) (i - 1)) (Fin.ofNat 11 (i / 4)))) ∧
    (∀ i, 4 ≤ i → i ≤ 43 → i % 4 ≠ 0 →
      flatWord (expand key) i = wxor (flatWord (expand key) (i - 4)) (flatWord (expand key) (i - 1)))

/-- R113: the sequence `KLD; KXR 1; ...; KXR 10` puts `expand(K)` into `RK`, and changes no other data register. -/
def Obligations.KeyScheduleSequenceExpandsTheKey : Prop :=
  ∀ s : State, s.upc.toNat ≤ 116 →
    ∃ t, execAll expandBody s = .next t ∧ t.rk = expand s.k ∧ t.k = s.k ∧ t.st = s.st ∧ t.bin = s.bin ∧
      t.outb = s.outb ∧ t.upc.toNat = s.upc.toNat + 11

/-- R81, R174: `UROM` holds the `ENC` body at 0..52, the `DEC` body at 64..116 and 0x00 everywhere else. -/
def Obligations.MicroprogramIsTheTwoBodies : Prop :=
  encBody.length = 53 ∧ decBody.length = 53 ∧
  (∀ a : Fin 53, some (decode (.uop (urom (BitVec.ofNat 7 a.val)))) = (encBody[a.val]?).map Except.ok) ∧
  (∀ a : Fin 53, some (decode (.uop (urom (BitVec.ofNat 7 (64 + a.val))))) = (decBody[a.val]?).map Except.ok) ∧
  (∀ a : Fin 11, urom (BitVec.ofNat 7 (53 + a.val)) = 0x00#8 ∧ urom (BitVec.ofNat 7 (117 + a.val)) = 0x00#8)

/-! ### Invariants -/

/-- The invariant holds at reset. -/
def Obligations.InvariantHoldsAtReset : Prop := Inv State.reset

/-- R23, R24, R26, R29, R231: every step keeps the invariant: a running command stays inside its own program, `ERR` is
an error exactly in `STATUS = ERROR`, and every round key the program has passed is the one of `expand(K)`. -/
def Obligations.StepKeepsTheInvariant : Prop :=
  ∀ s t : State, Inv s → step s = .next t → Inv t

/-- R77, R209: under the invariant a step always has a next state: no illegal word is fetched, `UPC` does not wrap, and a
command cannot fail once started. -/
def Obligations.StepNeverStopsUnderTheInvariant : Prop :=
  ∀ s : State, ControlInv s → ∃ t, step s = .next t

/-! ### The commands as functions -/

/-- R179: for each key, decryption undoes encryption and encryption undoes decryption; encryption under a key is a
bijection of the blocks. -/
def Obligations.DecryptInvertsEncrypt : Prop :=
  ∀ key : Block,
    (∀ p, decryptBlock key (encryptBlock key p) = p) ∧ (∀ c, encryptBlock key (decryptBlock key c) = c) ∧
    Function.Bijective (encryptBlock key)

/-- R179 on the machine: `ENC`, run to its end, and then `DEC` of what stands in `OUTB`, run to its end, give the block
back. -/
def Obligations.EncThenDecOnTheMachine : Prop :=
  ∀ (s : State) (key block : Block), s.status ≠ .busy → NoResetFor 106 s.inbox →
    ∃ t u v w, exec (.enc key block) s = .next t ∧ runSteps 53 t = .next u ∧ u.status = .done ∧
      exec (.dec key u.outb) u = .next v ∧ runSteps 53 v = .next w ∧ w.status = .done ∧ w.outb = block

/-- R180: the outcome of a command depends on mode, key and block only: two instances with any two histories and any two
residues give the same output. -/
def Obligations.OutputDependsOnTheCommandOnly : Prop :=
  ∀ (s s' : State) (m : BitVec 1) (key block : Block), s.status ≠ .busy → s'.status ≠ .busy →
    NoResetFor 53 s.inbox → NoResetFor 53 s'.inbox →
    ∃ t t' u u', exec (coreCommand m key block) s = .next t ∧ exec (coreCommand m key block) s' = .next t' ∧
      runSteps 53 t = .next u ∧ runSteps 53 t' = .next u' ∧ u.status = .done ∧ u'.status = .done ∧
      u.outb = u'.outb ∧ u.err = u'.err ∧ answer u = answer u'

/-! ### The boundary -/

/-- R206: the checks of `validate`, in their order, and the core command of a command that passes them all. -/
def Obligations.ValidateChecksInOrder : Prop :=
  ∀ c : BCmd,
    (c.keyColl.length ≠ 16 → validate c = .error .invalidKeyLength) ∧
    (c.keyColl.length = 16 → c.blockColl.length ≠ 16 → validate c = .error .invalidBlockLength) ∧
    (c.keyColl.length = 16 → c.blockColl.length = 16 → (∃ z ∈ c.keyColl, z < 0 ∨ 255 < z) →
      validate c = .error .invalidByteValue) ∧
    (c.keyColl.length = 16 → c.blockColl.length = 16 → (∃ z ∈ c.blockColl, z < 0 ∨ 255 < z) →
      validate c = .error .invalidByteValue) ∧
    (c.keyColl.length = 16 → c.blockColl.length = 16 → (∀ z ∈ c.keyColl, 0 ≤ z ∧ z ≤ 255) →
      (∀ z ∈ c.blockColl, 0 ≤ z ∧ z ≤ 255) → c.modeSel ≠ 0 → c.modeSel ≠ 1 → validate c = .error .invalidMode) ∧
    (c.keyColl.length = 16 → c.blockColl.length = 16 → (∀ z ∈ c.keyColl, 0 ≤ z ∧ z ≤ 255) →
      (∀ z ∈ c.blockColl, 0 ≤ z ∧ z ≤ 255) → c.modeSel = 0 ∨ c.modeSel = 1 →
      ∃ key block : Block,
        validate c = .ok (if c.modeSel = 0 then .enc key block else .dec key block) ∧
        (∀ i : Fin 16, c.keyColl[i.val]? = some ((key.get i).toNat : Int)) ∧
        (∀ i : Fin 16, c.blockColl[i.val]? = some ((block.get i).toNat : Int)))

/-- R200 to R204, in the cautious form of R206 and U5: an error is reported exactly when one applies, the reported one
applies, and no instruction of the core raises one. The codes are those of R200. -/
def Obligations.ReportedErrorApplies : Prop :=
  (∀ (c : BCmd) (e : InputError), validate c = .error e → Applies c e) ∧
  (∀ c : BCmd, (∃ e, Applies c e) → ∃ e, validate c = .error e) ∧
  (∀ (i : Instr) (s t : State), exec i s = .next t → t.err = s.err ∨ t.err = .none) ∧
  inputErrorCode .invalidKeyLength = 1#3 ∧ inputErrorCode .invalidBlockLength = 2#3 ∧
  inputErrorCode .invalidByteValue = 3#3 ∧ inputErrorCode .invalidMode = 4#3

/-- R205, R207: a rejected command sets `ERR` and `STATUS`, answers `Err(E)` and writes nothing else. -/
def Obligations.RejectionWritesOnlyStatusAndErr : Prop :=
  ∀ (s : State) (c : BCmd) (e : InputError), s.status ≠ .busy → currentInput s = .request c → validate c = .error e →
    ∃ t, step s = .next t ∧ errCode t.err = inputErrorCode e ∧ t.status = .error ∧ answer t = some (.error e) ∧
      blockOut t = none ∧ t.k = s.k ∧ t.bin = s.bin ∧ t.mode = s.mode ∧ t.rk = s.rk ∧ t.st = s.st ∧ t.outb = s.outb ∧
      t.upc = s.upc ∧ t.inbox = s.inbox.tail ∧ t.draws = s.draws

/-- R171, R206: a boundary command that passes every check is the core command it stands for. -/
def Obligations.AcceptedRequestRunsItsCommand : Prop :=
  ∀ (s : State) (c : BCmd) (i : Instr), s.status ≠ .busy → currentInput s = .request c → validate c = .ok i →
    step s = exec i (popInput s) ∧ ∃ m key block, i = coreCommand m key block

/-- D16, R207, R8: the answer to a boundary command is `Err` of the error of `validate`, after one step, or `Ok` of the
bytes of `encrypt_block` or `decrypt_block`, after 54. -/
def Obligations.BoundaryAnswerIsTheFunctionOrTheError : Prop :=
  ∀ (s : State) (c : BCmd) (rest : List HostInput), s.status ≠ .busy → s.inbox = .request c :: rest →
    NoResetFor 53 rest →
    (∀ e, validate c = .error e → ∃ t, runSteps 1 s = .next t ∧ answer t = some (.error e)) ∧
    (∀ key block, validate c = .ok (.enc key block) → ∃ t, runSteps 54 s = .next t ∧
      answer t = some (.ok (List.ofFn fun i : Fin 16 => (((encryptBlock key block).get i).toNat : Int)))) ∧
    (∀ key block, validate c = .ok (.dec key block) → ∃ t, runSteps 54 s = .next t ∧
      answer t = some (.ok (List.ofFn fun i : Fin 16 => (((decryptBlock key block).get i).toNat : Int))))

/-- R208: the same command presented again after its rejection is rejected again with the same error; a command is
accepted from `ERROR`, and every command, valid or not, acts from `ERROR` exactly as from `IDLE` or `DONE`. -/
def Obligations.RejectionRepeatsAndBlocksNothing : Prop :=
  (∀ (s : State) (c : BCmd) (e : InputError) (rest : List HostInput), s.status ≠ .busy →
    s.inbox = .request c :: .request c :: rest → validate c = .error e →
    ∃ t u, step s = .next t ∧ step t = .next u ∧ t.status = .error ∧ t.err = .raised e ∧ u.status = .error ∧
      u.err = .raised e) ∧
  (∀ (s : State) (m : BitVec 1) (key block : Block),
    ∃ t, exec (coreCommand m key block) { s with status := .error } = .next t ∧ t.status = .busy) ∧
  (∀ s : State, currentInput s ≠ .quiet →
    step { s with status := .error } = step { s with status := .idle } ∧
    step { s with status := .error } = step { s with status := .done })

/-! ### Who writes what -/

/-- R24: the codes of `STATUS`; a step changes it only to `BUSY` by a command start, to `DONE` by `OUT`, to `ERROR` by a
rejected command and to `IDLE` by reset; no micro-operation but `OUT` writes `STATUS` or `ERR`. -/
def Obligations.WhoWritesStatus : Prop :=
  (statusCode .idle = 0#2 ∧ statusCode .busy = 1#2 ∧ statusCode .done = 2#2 ∧ statusCode .error = 3#2) ∧
  (∀ s t : State, step s = .next t → t.status ≠ s.status →
    (t.status = .busy ∧ s.status ≠ .busy ∧
      ((∃ m k b, currentInput s = .start m k b) ∨ ∃ c i, currentInput s = .request c ∧ validate c = .ok i)) ∨
    (t.status = .done ∧ s.status = .busy ∧ decode (.uop (urom s.upc)) = .ok .out) ∨
    (t.status = .error ∧ s.status ≠ .busy ∧ ∃ c e, currentInput s = .request c ∧ validate c = .error e) ∨
    (t.status = .idle ∧ currentInput s = .rst)) ∧
  (∀ (i : Instr) (s t : State), (∀ m key block, i ≠ coreCommand m key block) → i ≠ .out → exec i s = .next t →
    t.status = s.status ∧ t.err = s.err)

/-- R20, R50: the instructions that write each data register. After `OUT` the registers `K`, `BIN`, `RK` and `ST` are
unspecified (R36), so `OUT` counts among the writers of these. -/
def Obligations.WhoWritesTheDataRegisters : Prop :=
  ∀ (i : Instr) (s t : State), exec i s = .next t →
    (t.st ≠ s.st → i = .ldst ∨ (∃ n, i = .ark n) ∨ i = .sb ∨ i = .sr ∨ i = .mc ∨ i = .isb ∨ i = .isr ∨ i = .imc ∨
      i = .out) ∧
    (∀ n : Fin 11, t.rk[n] ≠ s.rk[n] → (n = 0 ∧ i = .kld) ∨ i = .kxr (BitVec.ofNat 4 n.val) ∨ i = .out) ∧
    (t.k ≠ s.k ∨ t.bin ≠ s.bin → (∃ m key block, i = coreCommand m key block) ∨ i = .out) ∧
    (t.mode ≠ s.mode → ∃ m key block, i = coreCommand m key block) ∧
    (t.outb ≠ s.outb → i = .out)

/-- R25, R28, R61: while a command runs, no step but a reset or the command's own `OUT` changes `K`, `BIN`, `MODE`,
`OUTB` or `ERR`, whatever the host presents. -/
def Obligations.BusyStepKeepsTheLatches : Prop :=
  ∀ s t : State, s.status = .busy → currentInput s ≠ .rst → decode (.uop (urom s.upc)) ≠ .ok .out →
    step s = .next t →
    t.k = s.k ∧ t.bin = s.bin ∧ t.mode = s.mode ∧ t.outb = s.outb ∧ t.err = s.err ∧ t.status = .busy

/-- R30, R82, R182: the three status ports; the host has an output only in `DONE`, an error only in `ERROR`, and nothing
in `IDLE` and `BUSY`. -/
def Obligations.HostReadsOnlyWhatIsThere : Prop :=
  ∀ s : State,
    (busyPort s = true ↔ s.status = .busy) ∧ (donePort s = true ↔ s.status = .done) ∧
    (errorPort s = true ↔ s.status = .error) ∧
    (blockOut s ≠ none ↔ s.status = .done) ∧
    ((∃ l, answer s = some (.ok l)) ↔ s.status = .done) ∧
    (∀ e, answer s = some (.error e) ↔ s.status = .error ∧ s.err = .raised e) ∧
    (s.status = .idle ∨ s.status = .busy → answer s = none)

/-! ### Field arithmetic and tables -/

/-- R91: `xtime` in its equivalent form, its corner cases, and that it is a bijection. -/
def Obligations.XtimeInItsEquivalentForm : Prop :=
  (∀ a : Byte, xtime a = (a <<< 1) ^^^ (if a.getLsbD 7 then 0x1b#8 else 0x00#8)) ∧
  xtime 0x00#8 = 0x00#8 ∧ xtime 0x80#8 = 0x1b#8 ∧ xtime 0xff#8 = 0xe5#8 ∧ Function.Bijective xtime

/-- R92: the field product is the XOR over the set bits i of `c` of `xtime` applied i times to `a`; its forms at the six
coefficients; and its laws, which the spec marks as derived. -/
def Obligations.FieldProductLaws : Prop :=
  (∀ a c : Byte, gmul a c =
    (List.range 8).foldl (fun r i => if c.getLsbD i then r ^^^ Nat.iterate xtime i a else r) 0x00#8) ∧
  (∀ a : Byte, gmul a 2#8 = xtime a ∧ gmul a 3#8 = xtime a ^^^ a ∧
    gmul a 9#8 = xtime (xtime (xtime a)) ^^^ a ∧
    gmul a 11#8 = xtime (xtime (xtime a)) ^^^ xtime a ^^^ a ∧
    gmul a 13#8 = xtime (xtime (xtime a)) ^^^ xtime (xtime a) ^^^ a ∧
    gmul a 14#8 = xtime (xtime (xtime a)) ^^^ xtime (xtime a) ^^^ xtime a) ∧
  (∀ a : Byte, gmul a 1#8 = a ∧ gmul a 0#8 = 0#8 ∧ gmul 0#8 a = 0#8) ∧
  (∀ a c : Byte, gmul a c = gmul c a) ∧
  (∀ a b c : Byte, gmul (a ^^^ b) c = gmul a c ^^^ gmul b c)

/-- R93, R94, R100: the coefficient tables are the field products, the two substitution tables are inverse to each other
and without fixed or opposite fixed points, the corner values of all eight, and each round constant from the second on
is the double of the one before it. -/
def Obligations.ConstantTablesObeyTheirLaws : Prop :=
  (∀ a : Byte, mul2 a = gmul a 2#8 ∧ mul3 a = gmul a 3#8 ∧ mul9 a = gmul a 9#8 ∧ mul11 a = gmul a 11#8 ∧
    mul13 a = gmul a 13#8 ∧ mul14 a = gmul a 14#8) ∧
  ([0x00#8, 0x01#8, 0x80#8, 0xff#8].map mul2 = [0x00#8, 0x02#8, 0x1b#8, 0xe5#8] ∧
    [0x00#8, 0x01#8, 0x80#8, 0xff#8].map mul3 = [0x00#8, 0x03#8, 0x9b#8, 0x1a#8] ∧
    [0x00#8, 0x01#8, 0x80#8, 0xff#8].map mul9 = [0x00#8, 0x09#8, 0xec#8, 0x46#8] ∧
    [0x00#8, 0x01#8, 0x80#8, 0xff#8].map mul11 = [0x00#8, 0x0b#8, 0xf7#8, 0xa3#8] ∧
    [0x00#8, 0x01#8, 0x80#8, 0xff#8].map mul13 = [0x00#8, 0x0d#8, 0xda#8, 0x97#8] ∧
    [0x00#8, 0x01#8, 0x80#8, 0xff#8].map mul14 = [0x00#8, 0x0e#8, 0x41#8, 0x8d#8]) ∧
  ([0x00#8, 0xff#8, 0x80#8, 0x53#8].map sub = [0x63#8, 0x16#8, 0xcd#8, 0xed#8] ∧
    [0x00#8, 0x63#8, 0xff#8, 0xed#8].map isub = [0x52#8, 0x00#8, 0x7d#8, 0x53#8]) ∧
  (∀ b : Byte, isub (sub b) = b ∧ sub (isub b) = b ∧ sub b ≠ b ∧ sub b ≠ b ^^^ 0xff#8) ∧
  (rcon 0 = 0x00#8 ∧ rcon 1 = 0x01#8 ∧ ∀ i j : Fin 11, 1 ≤ i.val → j.val = i.val + 1 → rcon j = xtime (rcon i))

/-- R32: the S-box is its generating definition: the affine map of the field inverse, with 0 taken to 0. -/
def Obligations.SboxIsAffineOfTheInverse : Prop :=
  ∀ b : Byte, ∃ c : Byte, ((b = 0#8 ∧ c = 0#8) ∨ gmul b c = 1#8) ∧ sub b = sboxAffine c
end

