-- ==== Sys2Proof/Laws/Buffers.lean ====
section
/-! SUPPORT. The small lemmas of buffers and of their row, column and byte views (R11, R22, R53). -/

namespace Sys2Proof

@[simp] theorem Word.get_ofFn (f : Fin 4 → Byte) (k : Fin 4) : (Word.ofFn f).get k = f k := by
  fin_cases k <;> rfl

@[simp] theorem Word.ofFn_get (w : Word) : Word.ofFn w.get = w := rfl

theorem Word.ext_get {v w : Word} (h : ∀ k, v.get k = w.get k) : v = w := by
  rw [← Word.ofFn_get v, ← Word.ofFn_get w, funext h]

@[simp] theorem Block.get_ofFn (f : Fin 16 → Byte) (i : Fin 16) : (Block.ofFn f).get i = f i := by
  fin_cases i <;> rfl

@[simp] theorem Block.ofFn_get (b : Block) : Block.ofFn b.get = b := rfl

/-- Two buffers with the same 16 bytes are the same. -/
theorem Block.ext_get {a b : Block} (h : ∀ i, a.get i = b.get i) : a = b := by
  rw [← Block.ofFn_get a, ← Block.ofFn_get b, funext h]

/-- Byte k of word j is byte `4j + k` (R11, R53). -/
theorem Block.word_get (b : Block) (j k : Fin 4) :
    (b.word j).get k = b.get ⟨4 * j.val + k.val, by omega⟩ := by
  fin_cases j <;> fin_cases k <;> rfl

namespace Machine

@[simp] theorem rowOf_idx (r c : Fin 4) : rowOf (idx r c) = r := by
  fin_cases r <;> fin_cases c <;> rfl

@[simp] theorem colOf_idx (r c : Fin 4) : colOf (idx r c) = c := by
  fin_cases r <;> fin_cases c <;> rfl

@[simp] theorem idx_rowOf_colOf (i : Fin 16) : idx (rowOf i) (colOf i) = i := by
  fin_cases i <;> rfl

@[simp] theorem cell_ofCells (f : Fin 4 → Fin 4 → Byte) (r c : Fin 4) : cell (ofCells f) r c = f r c := by
  simp [cell, ofCells]

/-- Two buffers with the same 16 cells are the same. -/
theorem ext_cell {a b : Block} (h : ∀ r c, cell a r c = cell b r c) : a = b := by
  apply Block.ext_get
  intro i
  simpa [cell] using h (rowOf i) (colOf i)

@[simp] theorem column_ofColumns (f : Fin 4 → Word) (c : Fin 4) : column (ofColumns f) c = f c := by
  simp [column, ofColumns]

/-- Column c of the State is word c of the buffer (R22). -/
theorem column_eq_word (s : Block) (c : Fin 4) : column s c = s.word c := by
  fin_cases c <;> rfl

@[simp] theorem ofColumns_column (s : Block) : ofColumns (column s) = s := by
  apply ext_cell
  intro r c
  simp [ofColumns, column]

/-- Two buffers with the same 4 columns are the same. -/
theorem ext_column {a b : Block} (h : ∀ c, column a c = column b c) : a = b := by
  rw [← ofColumns_column a, ← ofColumns_column b, funext h]

@[simp] theorem get_mapBytes (f : Byte → Byte) (s : Block) (i : Fin 16) : (mapBytes f s).get i = f (s.get i) := by
  simp [mapBytes]

@[simp] theorem get_xorBlock (s t : Block) (i : Fin 16) : (xorBlock s t).get i = s.get i ^^^ t.get i := by
  simp [xorBlock]

@[simp] theorem get_addRoundKey (s k : Block) (i : Fin 16) : (addRoundKey s k).get i = s.get i ^^^ k.get i :=
  get_xorBlock s k i

@[simp] theorem cell_mapBytes (f : Byte → Byte) (s : Block) (r c : Fin 4) :
    cell (mapBytes f s) r c = f (cell s r c) := get_mapBytes f s (idx r c)

@[simp] theorem cell_xorBlock (s t : Block) (r c : Fin 4) : cell (xorBlock s t) r c = cell s r c ^^^ cell t r c :=
  get_xorBlock s t (idx r c)

@[simp] theorem column_mixColumns (s : Block) (c : Fin 4) : column (mixColumns s) c = mixColumn (column s c) := by
  simp [mixColumns]

@[simp] theorem column_invMixColumns (s : Block) (c : Fin 4) :
    column (invMixColumns s) c = invMixColumn (column s c) := by
  simp [invMixColumns]

@[simp] theorem expand_getElem (key : Block) (n : Fin 11) : (expand key)[n] = roundKey key n := by
  simp [expand]

end Machine

end Sys2Proof
end

