-- ==== Sys2Proof/Laws/Decode.lean ====
section
/-! SUPPORT. The field lemmas of the two formats: each field of a word that was put together is the field that was put
in (R52, R72, R74). -/

namespace Sys2Proof

@[simp] theorem cmdMode_cmdWord (m : BitVec 1) (k b : BitVec 128) : cmdMode (cmdWord m k b) = m := by
  apply BitVec.eq_of_getLsbD_eq
  intro i hi
  simp [cmdMode, cmdWord, hi]
  grind

@[simp] theorem cmdKey_cmdWord (m : BitVec 1) (k b : BitVec 128) : cmdKey (cmdWord m k b) = k := by
  apply BitVec.eq_of_getLsbD_eq
  intro i hi
  simp [cmdKey, cmdWord, hi]
  grind

@[simp] theorem cmdBlock_cmdWord (m : BitVec 1) (k b : BitVec 128) : cmdBlock (cmdWord m k b) = b := by
  apply BitVec.eq_of_getLsbD_eq
  intro i hi
  simp [cmdBlock, cmdWord, hi]
  grind

@[simp] theorem uopOp_uopWord (op n : BitVec 4) : uopOp (uopWord op n) = op := by
  revert op n
  decide

@[simp] theorem uopN_uopWord (op n : BitVec 4) : uopN (uopWord op n) = n := by
  revert op n
  decide

/-- A bit of an or of parts is a bit of one of the parts. -/
theorem getLsbD_foldl_or {α : Type} (f : α → BitVec 128) (l : List α) (x : BitVec 128) (j : Nat) :
    (l.foldl (fun y a => y ||| f a) x).getLsbD j = (x.getLsbD j || l.any fun a => (f a).getLsbD j) := by
  induction l generalizing x with
  | nil => simp
  | cons a l ih => simp [ih, Bool.or_assoc]

/-- Byte i of the field of a buffer is byte i of the buffer (R52, R72). -/
@[simp] theorem fieldByte_fieldOfBlock (x : Block) (i : Fin 16) : fieldByte (fieldOfBlock x) i = x.get i := by
  apply BitVec.eq_of_getLsbD_eq
  intro r hr
  have other : ∀ i' : Fin 16, i' ≠ i →
      ((x.get i').setWidth 128 <<< (120 - 8 * i'.val)).getLsbD (120 - 8 * i.val + r) = false := by
    intro i' hne
    have : i'.val ≠ i.val := fun e => hne (Fin.ext e)
    rw [BitVec.getLsbD_shiftLeft]
    by_cases hlt : 120 - 8 * i.val + r < 120 - 8 * i'.val
    · simp [hlt]
    · rw [BitVec.getLsbD_setWidth, BitVec.getLsbD_of_ge (x.get i') _ (by omega)]
      simp
  have same : ((x.get i).setWidth 128 <<< (120 - 8 * i.val)).getLsbD (120 - 8 * i.val + r) = (x.get i).getLsbD r := by
    simp [hr, show 120 - 8 * i.val + r < 128 by omega]
  rw [fieldByte, BitVec.getLsbD_extractLsb', fieldOfBlock, getLsbD_foldl_or]
  simp only [hr, decide_true, Bool.true_and, BitVec.getLsbD_zero, Bool.false_or]
  rw [Bool.eq_iff_iff, List.any_eq_true]
  constructor
  · rintro ⟨i', -, h⟩
    by_cases hi : i' = i
    · subst hi
      rwa [same] at h
    · rw [other i' hi] at h
      cases h
  · intro h
    exact ⟨i, List.mem_finRange i, by rwa [same]⟩

@[simp] theorem blockOfField_fieldOfBlock (x : Block) : blockOfField (fieldOfBlock x) = x := by
  apply Block.ext_get
  simp [blockOfField]

end Sys2Proof
end

