-- ==== Sys2Proof/Laws/State.lean ====
section
/-! SUPPORT. One lemma per field of State for each named update of Machine/Ops.lean, so that no proof unfolds a record
update. A field that an update leaves unspecified (a free value) has no lemma. -/

namespace Sys2Proof.Machine

variable (s : State)

/-! ### setSt -/

@[simp] theorem setSt_st (b : Block) : (setSt s b).st = b := rfl
@[simp] theorem setSt_k (b : Block) : (setSt s b).k = s.k := rfl
@[simp] theorem setSt_bin (b : Block) : (setSt s b).bin = s.bin := rfl
@[simp] theorem setSt_rk (b : Block) : (setSt s b).rk = s.rk := rfl
@[simp] theorem setSt_outb (b : Block) : (setSt s b).outb = s.outb := rfl
@[simp] theorem setSt_mode (b : Block) : (setSt s b).mode = s.mode := rfl
@[simp] theorem setSt_upc (b : Block) : (setSt s b).upc = s.upc := rfl
@[simp] theorem setSt_status (b : Block) : (setSt s b).status = s.status := rfl
@[simp] theorem setSt_err (b : Block) : (setSt s b).err = s.err := rfl
@[simp] theorem setSt_inbox (b : Block) : (setSt s b).inbox = s.inbox := rfl
@[simp] theorem setSt_draws (b : Block) : (setSt s b).draws = s.draws := rfl

/-! ### setRk -/

@[simp] theorem setRk_st (n : Fin 11) (b : Block) : (setRk s n b).st = s.st := rfl
@[simp] theorem setRk_k (n : Fin 11) (b : Block) : (setRk s n b).k = s.k := rfl
@[simp] theorem setRk_bin (n : Fin 11) (b : Block) : (setRk s n b).bin = s.bin := rfl
@[simp] theorem setRk_rk (n : Fin 11) (b : Block) : (setRk s n b).rk = s.rk.set n.val b n.isLt := rfl
@[simp] theorem setRk_outb (n : Fin 11) (b : Block) : (setRk s n b).outb = s.outb := rfl
@[simp] theorem setRk_mode (n : Fin 11) (b : Block) : (setRk s n b).mode = s.mode := rfl
@[simp] theorem setRk_upc (n : Fin 11) (b : Block) : (setRk s n b).upc = s.upc := rfl
@[simp] theorem setRk_status (n : Fin 11) (b : Block) : (setRk s n b).status = s.status := rfl
@[simp] theorem setRk_err (n : Fin 11) (b : Block) : (setRk s n b).err = s.err := rfl
@[simp] theorem setRk_inbox (n : Fin 11) (b : Block) : (setRk s n b).inbox = s.inbox := rfl
@[simp] theorem setRk_draws (n : Fin 11) (b : Block) : (setRk s n b).draws = s.draws := rfl

/-! ### advanced -/

@[simp] theorem advanced_st : (advanced s).st = s.st := rfl
@[simp] theorem advanced_k : (advanced s).k = s.k := rfl
@[simp] theorem advanced_bin : (advanced s).bin = s.bin := rfl
@[simp] theorem advanced_rk : (advanced s).rk = s.rk := rfl
@[simp] theorem advanced_outb : (advanced s).outb = s.outb := rfl
@[simp] theorem advanced_mode : (advanced s).mode = s.mode := rfl
@[simp] theorem advanced_upc : (advanced s).upc = s.upc + 1#7 := rfl
@[simp] theorem advanced_status : (advanced s).status = s.status := rfl
@[simp] theorem advanced_err : (advanced s).err = s.err := rfl
@[simp] theorem advanced_inbox : (advanced s).inbox = s.inbox := rfl
@[simp] theorem advanced_draws : (advanced s).draws = s.draws := rfl

/-! ### startedState -/

@[simp] theorem startedState_st (m : BitVec 1) (key block : Block) : (startedState s m key block).st = s.st := rfl
@[simp] theorem startedState_k (m : BitVec 1) (key block : Block) : (startedState s m key block).k = key := rfl
@[simp] theorem startedState_bin (m : BitVec 1) (key block : Block) : (startedState s m key block).bin = block := rfl
@[simp] theorem startedState_rk (m : BitVec 1) (key block : Block) : (startedState s m key block).rk = s.rk := rfl
@[simp] theorem startedState_outb (m : BitVec 1) (key block : Block) : (startedState s m key block).outb = s.outb := rfl
@[simp] theorem startedState_mode (m : BitVec 1) (key block : Block) : (startedState s m key block).mode = m := rfl
@[simp] theorem startedState_upc (m : BitVec 1) (key block : Block) : (startedState s m key block).upc = entryUpc m := rfl
@[simp] theorem startedState_status (m : BitVec 1) (key block : Block) : (startedState s m key block).status = .busy := rfl
@[simp] theorem startedState_err (m : BitVec 1) (key block : Block) : (startedState s m key block).err = .none := rfl
@[simp] theorem startedState_inbox (m : BitVec 1) (key block : Block) : (startedState s m key block).inbox = s.inbox := rfl
@[simp] theorem startedState_draws (m : BitVec 1) (key block : Block) : (startedState s m key block).draws = s.draws := rfl

/-! ### finishedState -/

@[simp] theorem finishedState_outb : (finishedState s).outb = s.st := rfl
@[simp] theorem finishedState_mode : (finishedState s).mode = s.mode := rfl
@[simp] theorem finishedState_upc : (finishedState s).upc = s.upc := rfl
@[simp] theorem finishedState_status : (finishedState s).status = .done := rfl
@[simp] theorem finishedState_err : (finishedState s).err = s.err := rfl
@[simp] theorem finishedState_inbox : (finishedState s).inbox = s.inbox := rfl
@[simp] theorem finishedState_draws : (finishedState s).draws = s.draws + 1 := rfl

/-! ### raiseError -/

@[simp] theorem raiseError_st (e : InputError) : (raiseError s e).st = s.st := rfl
@[simp] theorem raiseError_k (e : InputError) : (raiseError s e).k = s.k := rfl
@[simp] theorem raiseError_bin (e : InputError) : (raiseError s e).bin = s.bin := rfl
@[simp] theorem raiseError_rk (e : InputError) : (raiseError s e).rk = s.rk := rfl
@[simp] theorem raiseError_outb (e : InputError) : (raiseError s e).outb = s.outb := rfl
@[simp] theorem raiseError_mode (e : InputError) : (raiseError s e).mode = s.mode := rfl
@[simp] theorem raiseError_upc (e : InputError) : (raiseError s e).upc = s.upc := rfl
@[simp] theorem raiseError_status (e : InputError) : (raiseError s e).status = .error := rfl
@[simp] theorem raiseError_err (e : InputError) : (raiseError s e).err = .raised e := rfl
@[simp] theorem raiseError_inbox (e : InputError) : (raiseError s e).inbox = s.inbox := rfl
@[simp] theorem raiseError_draws (e : InputError) : (raiseError s e).draws = s.draws := rfl

/-! ### resetEvent -/

@[simp] theorem resetEvent_upc : (resetEvent s).upc = 0#7 := rfl
@[simp] theorem resetEvent_status : (resetEvent s).status = .idle := rfl
@[simp] theorem resetEvent_err : (resetEvent s).err = .none := rfl
@[simp] theorem resetEvent_inbox : (resetEvent s).inbox = s.inbox := rfl
@[simp] theorem resetEvent_draws : (resetEvent s).draws = s.draws + 1 := rfl

/-! ### popInput -/

@[simp] theorem popInput_st : (popInput s).st = s.st := rfl
@[simp] theorem popInput_k : (popInput s).k = s.k := rfl
@[simp] theorem popInput_bin : (popInput s).bin = s.bin := rfl
@[simp] theorem popInput_rk : (popInput s).rk = s.rk := rfl
@[simp] theorem popInput_outb : (popInput s).outb = s.outb := rfl
@[simp] theorem popInput_mode : (popInput s).mode = s.mode := rfl
@[simp] theorem popInput_upc : (popInput s).upc = s.upc := rfl
@[simp] theorem popInput_status : (popInput s).status = s.status := rfl
@[simp] theorem popInput_err : (popInput s).err = s.err := rfl
@[simp] theorem popInput_inbox : (popInput s).inbox = s.inbox.tail := rfl
@[simp] theorem popInput_draws : (popInput s).draws = s.draws := rfl

/-! ### The state after reset (R39) -/

@[simp] theorem reset_upc : State.reset.upc = 0#7 := rfl
@[simp] theorem reset_status : State.reset.status = .idle := rfl
@[simp] theorem reset_err : State.reset.err = .none := rfl
@[simp] theorem reset_inbox : State.reset.inbox = [] := rfl
@[simp] theorem reset_draws : State.reset.draws = 0 := rfl

/-! ### Round keys after a write -/

@[simp] theorem setRk_rk_same (n : Fin 11) (b : Block) : (setRk s n b).rk[n] = b := by simp

theorem setRk_rk_other (n m : Fin 11) (b : Block) (h : m ≠ n) : (setRk s n b).rk[m] = s.rk[m] := by
  have : n.val ≠ m.val := fun e => h (Fin.ext e.symm)
  simp [this]

end Sys2Proof.Machine
end

