-- ==== Sys2Proof/Laws/Ops.lean ====
section
/-! SUPPORT. What each shared operation can do, said once. -/

namespace Sys2Proof.Machine

variable {s t : State}

/-- `advance` gives a next state exactly where the increment of `UPC` has a meaning (R23). -/
theorem advance_next_iff : advance s = .next t ↔ s.upc ≠ 127#7 ∧ t = advanced s := by
  unfold advance
  split
  · simp [*]
  · simp [*, eq_comm]

theorem advance_of_ne (h : s.upc ≠ 127#7) : advance s = .next (advanced s) := by simp [advance, h]

theorem advance_at_127 (h : s.upc = 127#7) : advance s = .refused .upcWrap := by simp [advance, h]

theorem advance_ne_fault {f : Fault} : advance s ≠ .fault f := by cases f

/-- Command start gives a next state always: the started one, or the old one while a command runs (R171). -/
theorem startCommand_next_iff {m : BitVec 1} {key block : Block} :
    startCommand s m key block = .next t ↔
      (s.status = .busy ∧ t = s) ∨ (s.status ≠ .busy ∧ t = startedState s m key block) := by
  unfold startCommand
  split <;> simp [*, @eq_comm _ t]

theorem entryUpc_toNat (m : BitVec 1) : (entryUpc m).toNat = 64 * m.toNat := by
  revert m
  decide

end Sys2Proof.Machine
end

