-- ==== Sys2Proof/Laws/Exec.lean ====
section
/-! SUPPORT. What executing an instruction can do, said once: which shared operation each meaning ends in, and the
shape of every next state. -/

namespace Sys2Proof.Machine

variable {s t : State}

theorem arkOperand_eq_some_iff {n : BitVec 4} {r : Fin 11} : arkOperand n = some r ↔ r.val = n.toNat := by
  unfold arkOperand
  constructor
  · intro h
    split at h
    · cases h
      rfl
    · cases h
  · intro h
    have : n.toNat ≤ 10 := by omega
    simp [this, Fin.ext_iff, h]

theorem kxrOperand_eq_some_iff {n : BitVec 4} {src dst : Fin 11} :
    kxrOperand n = some (src, dst) ↔ dst.val = n.toNat ∧ src.val + 1 = dst.val := by
  unfold kxrOperand
  constructor
  · intro h
    split at h
    · cases h
      exact ⟨rfl, by simp; omega⟩
    · cases h
  · rintro ⟨h1, h2⟩
    have : 1 ≤ n.toNat ∧ n.toNat ≤ 10 := by omega
    simp [this, Fin.ext_iff]
    omega

/-- The instructions whose meaning is `ST <- f` and `UPC <- UPC + 1`, with the new State. -/
def newSt (i : Instr) (s : State) : Option Block :=
  match i with
  | .ldst => some s.bin
  | .ark n => (arkOperand n).map fun r => addRoundKey s.st s.rk[r]
  | .sb => some (subBytes s.st)
  | .sr => some (shiftRows s.st)
  | .mc => some (mixColumns s.st)
  | .isb => some (invSubBytes s.st)
  | .isr => some (invShiftRows s.st)
  | .imc => some (invMixColumns s.st)
  | .enc _ _ => none
  | .dec _ _ => none
  | .kld => none
  | .kxr _ => none
  | .out => none

/-- The instructions whose meaning is `RK[n] <- f` and `UPC <- UPC + 1`, with the round index and the new round key. -/
def newRk (i : Instr) (s : State) : Option (Fin 11 × Block) :=
  match i with
  | .kld => some (0, s.k)
  | .kxr n => (kxrOperand n).map fun p => (p.2, nextRoundKey s.rk[p.1] p.2)
  | .enc _ _ => none
  | .dec _ _ => none
  | .ldst => none
  | .ark _ => none
  | .sb => none
  | .sr => none
  | .mc => none
  | .isb => none
  | .isr => none
  | .imc => none
  | .out => none

theorem exec_of_newSt {i : Instr} {b : Block} (h : newSt i s = some b) : exec i s = advance (setSt s b) := by
  cases i with
  | ark n =>
    obtain ⟨r, hr, rfl⟩ := Option.map_eq_some_iff.mp h
    simp [exec, execArk, hr]
  | _ => cases h; try rfl

theorem exec_of_newRk {i : Instr} {n : Fin 11} {b : Block} (h : newRk i s = some (n, b)) :
    exec i s = advance (setRk s n b) := by
  cases i with
  | kxr m =>
    obtain ⟨⟨src, dst⟩, hp, he⟩ := Option.map_eq_some_iff.mp h
    cases he
    simp [exec, execKxr, hp]
  | _ => cases h; try rfl

/-- Every next state of every instruction: a new State, a new round key, the end of a command, a command start, or
nothing at all for a command given while another runs. -/
theorem exec_next_cases {i : Instr} (h : exec i s = .next t) :
    (∃ b, newSt i s = some b ∧ s.upc ≠ 127#7 ∧ t = advanced (setSt s b)) ∨
    (∃ n b, newRk i s = some (n, b) ∧ s.upc ≠ 127#7 ∧ t = advanced (setRk s n b)) ∨
    (i = .out ∧ t = finishedState s) ∨
    (∃ m key block, i = coreCommand m key block ∧ s.status ≠ .busy ∧ t = startedState s m key block) ∨
    (∃ m key block, i = coreCommand m key block ∧ s.status = .busy ∧ t = s) := by
  have st : ∀ b, newSt i s = some b → ∃ b, newSt i s = some b ∧ s.upc ≠ 127#7 ∧ t = advanced (setSt s b) := by
    intro b hb
    rw [exec_of_newSt hb] at h
    exact ⟨b, hb, advance_next_iff.mp h⟩
  have rk : ∀ p, newRk i s = some p →
      ∃ n b, newRk i s = some (n, b) ∧ s.upc ≠ 127#7 ∧ t = advanced (setRk s n b) := by
    rintro ⟨n, b⟩ hp
    rw [exec_of_newRk hp] at h
    exact ⟨n, b, hp, advance_next_iff.mp h⟩
  cases i with
  | enc key block =>
    rcases startCommand_next_iff.mp h with ⟨hb, ht⟩ | ⟨hb, ht⟩
    · exact .inr (.inr (.inr (.inr ⟨0#1, key, block, rfl, hb, ht⟩)))
    · exact .inr (.inr (.inr (.inl ⟨0#1, key, block, rfl, hb, ht⟩)))
  | dec key block =>
    rcases startCommand_next_iff.mp h with ⟨hb, ht⟩ | ⟨hb, ht⟩
    · exact .inr (.inr (.inr (.inr ⟨1#1, key, block, rfl, hb, ht⟩)))
    · exact .inr (.inr (.inr (.inl ⟨1#1, key, block, rfl, hb, ht⟩)))
  | out => exact .inr (.inr (.inl ⟨rfl, by cases h; rfl⟩))
  | kld => exact .inr (.inl (rk _ rfl))
  | kxr n =>
    cases ho : kxrOperand n with
    | none => simp [exec, execKxr, ho] at h
    | some p => exact .inr (.inl (rk _ (by simp [newRk, ho]; rfl)))
  | ark n =>
    cases ho : arkOperand n with
    | none => simp [exec, execArk, ho] at h
    | some r => exact .inl (st _ (by simp [newSt, ho]; rfl))
  | ldst => exact .inl (st _ rfl)
  | sb => exact .inl (st _ rfl)
  | sr => exact .inl (st _ rfl)
  | mc => exact .inl (st _ rfl)
  | isb => exact .inl (st _ rfl)
  | isr => exact .inl (st _ rfl)
  | imc => exact .inl (st _ rfl)

end Sys2Proof.Machine
end

