-- ==== Sys2Proof/Laws/PerInstr.lean ====
section
/-! SUPPORT. Statements made for every instruction, one lemma per constructor: the word of a well-formed instruction is
a core command's word with its own mode bit or one of the 30 legal micro-operation words (R72, R79). -/

namespace Sys2Proof.Laws.LegalWord

/-- The 30 legal micro-operation words as R79 lists them. -/
def legalWords : List (BitVec 8) :=
  [0x10#8] ++ (List.range 10).map (fun k => BitVec.ofNat 8 (0x21 + k)) ++ [0x30#8]
    ++ (List.range 11).map (fun k => BitVec.ofNat 8 (0x40 + k))
    ++ [0x50#8, 0x60#8, 0x70#8, 0x80#8, 0x90#8, 0xa0#8, 0xb0#8]

/-- Where the word of a well-formed instruction lies. -/
def Statement (i : Instr) : Prop :=
  i.wf = true →
    match encode i with
    | .uop w => w ∈ legalWords
    | .cmd w => ∃ key block, i = coreCommand (cmdMode w) key block

theorem enc (key block : Block) : Statement (.enc key block) := by
  intro _
  exact ⟨key, block, by simp [coreCommand]⟩
theorem dec (key block : Block) : Statement (.dec key block) := by
  intro _
  exact ⟨key, block, by simp [coreCommand]⟩
theorem kld : Statement .kld := fun _ => show uopWord 0x1#4 0#4 ∈ legalWords by decide
theorem kxr (n : BitVec 4) : Statement (.kxr n) := by
  have every : ∀ n, (Instr.kxr n).wf = true → uopWord 0x2#4 n ∈ legalWords := by decide
  exact every n
theorem ldst : Statement .ldst := fun _ => show uopWord 0x3#4 0#4 ∈ legalWords by decide
theorem ark (n : BitVec 4) : Statement (.ark n) := by
  have every : ∀ n, (Instr.ark n).wf = true → uopWord 0x4#4 n ∈ legalWords := by decide
  exact every n
theorem sb : Statement .sb := fun _ => show uopWord 0x5#4 0#4 ∈ legalWords by decide
theorem sr : Statement .sr := fun _ => show uopWord 0x6#4 0#4 ∈ legalWords by decide
theorem mc : Statement .mc := fun _ => show uopWord 0x7#4 0#4 ∈ legalWords by decide
theorem isb : Statement .isb := fun _ => show uopWord 0x8#4 0#4 ∈ legalWords by decide
theorem isr : Statement .isr := fun _ => show uopWord 0x9#4 0#4 ∈ legalWords by decide
theorem imc : Statement .imc := fun _ => show uopWord 0xa#4 0#4 ∈ legalWords by decide
theorem out : Statement .out := fun _ => show uopWord 0xb#4 0#4 ∈ legalWords by decide

end Sys2Proof.Laws.LegalWord
end

