-- ==== Sys2Proof/Laws/Run.lean ====
section
/-! SUPPORT. The small lemmas of runs: of the machine and of instruction lists. -/

namespace Sys2Proof.Machine

variable {s t : State}

@[simp] theorem runSteps_zero : runSteps 0 s = .next s := rfl

theorem runSteps_succ_of_step (k : Nat) (h : step s = .next t) : runSteps (k + 1) s = runSteps k t := by
  simp [runSteps, h]

/-- Runs compose. -/
theorem runSteps_add (j k : Nat) (h : runSteps j s = .next t) : runSteps (j + k) s = runSteps k t := by
  induction j generalizing s with
  | zero =>
    cases h
    simp
  | succ j ih =>
    rw [runSteps] at h
    rw [Nat.add_right_comm, runSteps]
    split at h <;> simp_all

theorem core_run_next (M : Host.Core) (k : Nat) (x y : M.State) (h : M.step x = .next y) :
    M.run (k + 1) x = M.run k y := by simp [Host.Core.run, h]

theorem core_run_fault (M : Host.Core) (k : Nat) (x : M.State) (f : M.Fault) (h : M.step x = .fault f) :
    M.run (k + 1) x = .fault f := by simp [Host.Core.run, h]

theorem core_run_refused (M : Host.Core) (k : Nat) (x : M.State) (r : M.Refusal) (h : M.step x = .refused r) :
    M.run (k + 1) x = .refused r := by simp [Host.Core.run, h]

/-- `runSteps` is the host's own run of this machine. -/
theorem runSteps_eq_core_run (k : Nat) : runSteps k s = core.run k s := by
  induction k generalizing s with
  | zero => rfl
  | succ k ih =>
    rw [runSteps]
    cases h : step s with
    | next t => exact ih.trans (core_run_next core k s t h).symm
    | fault f => exact (core_run_fault core k s f h).symm
    | refused r => exact (core_run_refused core k s r h).symm

theorem execAll_append (is js : List Instr) (h : execAll is s = .next t) : execAll (is ++ js) s = execAll js t := by
  induction is generalizing s with
  | nil =>
    cases h
    rfl
  | cons i is ih =>
    simp only [execAll, List.cons_append] at h ⊢
    split at h <;> simp_all

end Sys2Proof.Machine
end

