-- ==== Sys2Proof/Laws/Step.lean ====
section
/-! SUPPORT. What one step does, said once: which of its five kinds it is. -/

namespace Sys2Proof.Machine

variable {s : State}

theorem step_reset (h : currentInput s = .rst) : step s = .next (resetEvent (popInput s)) := by
  simp [step, stepWith, h]

/-- While a command runs, every input but a reset leaves the step to the sequencer (R170, R171, R83). -/
theorem step_busy (h : currentInput s ≠ .rst) (hb : s.status = .busy) :
    step s = runWord (.uop (urom s.upc)) (popInput s) := by
  unfold step stepWith
  cases hi : currentInput s <;> simp_all

theorem step_quiet (h : currentInput s = .quiet) (hb : s.status ≠ .busy) : step s = .next (popInput s) := by
  simp [step, stepWith, h, hb]

theorem step_start {m : BitVec 1} {k b : BitVec 128} (h : currentInput s = .start m k b) (hb : s.status ≠ .busy) :
    step s = runWord (.cmd (cmdWord m k b)) (popInput s) := by
  simp [step, stepWith, h, hb]

theorem step_request {c : BCmd} (h : currentInput s = .request c) (hb : s.status ≠ .busy) :
    step s = runRequest c (popInput s) := by
  simp [step, stepWith, h, hb]

/-- The boundary gives an error or a core command, never a micro-operation (R206). -/
theorem validate_ok {c : BCmd} {i : Instr} (h : validate c = .ok i) :
    i = coreCommand (BitVec.ofInt 1 c.modeSel) (blockOfColl c.keyColl) (blockOfColl c.blockColl) := by
  unfold validate at h
  repeat' split at h
  all_goals simp_all

end Sys2Proof.Machine
end

