-- ==== Sys2Proof/Laws/Tables.lean ====
section
/-! SUPPORT. Every constant table has an entry at every index (R31), so the default of a read is never used. -/

namespace Sys2Proof.Machine

theorem byteTables_length :
    [sboxTable, invSboxTable, mul2Table, mul3Table, mul9Table, mul11Table, mul13Table, mul14Table].map List.length
      = List.replicate 8 256 := by decide +kernel

theorem rconTable_length : rconTable.length = 11 := by decide +kernel

theorem uromTable_length : uromTable.length = 128 := by decide +kernel

/-- A word that stands in `UROM` is found at an index that holds it. -/
theorem urom_uromAddressOf : ∀ w ∈ uromTable, urom (uromAddressOf w) = w := by decide +kernel

end Sys2Proof.Machine
end

