-- ==== Sys2Proof/Tests/Slice0.lean ====
section
/-! SUPPORT. The model's own tests. Expected values are those of the spec's rules and of spec/95_test_vectors.md, cited
at each group; then, for every statement with hypotheses, a witness that meets them. -/

namespace Sys2Proof.Tests

-- One theorem after the other: checked side by side, their threads' stacks alone would fill the memory limit.
set_option Elab.async false

open Sys2Proof.Machine

/-! ### Helpers -/

/-- A buffer written as the spec writes one, 32 hexadecimal digits, index 0 first. -/
def hex (x : BitVec 128) : Block := blockOfField x

/-- Every data register zero, no command running. -/
def zeros : State where
  st := hex 0#128
  k := hex 0#128
  bin := hex 0#128
  rk := Vector.replicate 11 (hex 0#128)
  outb := hex 0#128
  mode := 0#1
  upc := 0#7
  status := .idle
  err := .none
  inbox := []
  draws := 0

/-- A command running at an entry of `UROM`. -/
def runningAt (upc : BitVec 7) : State := { zeros with status := .busy, upc := upc }

/-- The outcome is a next state with the property. -/
def nextHas (o : Host.Outcome State Fault Refusal) (p : State → Bool) : Bool :=
  match o with
  | .next t => p t
  | .fault _ => false
  | .refused _ => false

/-- The outcome is this refusal. -/
def refusedWith (o : Host.Outcome State Fault Refusal) (r : Refusal) : Bool :=
  match o with
  | .next _ => false
  | .fault _ => false
  | .refused q => q = r

theorem exists_next {o : Host.Outcome State Fault Refusal} {p : State → Bool} (h : nextHas o p = true) :
    ∃ t, o = .next t ∧ p t = true := by
  cases o with
  | next t => exact ⟨t, rfl, h⟩
  | fault f => cases f
  | refused r => cases h

/-- The source's known-answer key, block and answer (95_test_vectors.md 1.1). -/
def katKey : Block := hex 0x000102030405060708090a0b0c0d0e0f#128
def katPlain : Block := hex 0x00112233445566778899aabbccddeeff#128
def katCipher : Block := hex 0x69c4e0d86a7b0430d8cdb78070b4c55a#128

/-- The integers `k16` and `b16` of 95_test_vectors.md 8. -/
def k16 : List Int := [0, 1, 2, 3, 4, 5, 6, 7, 8, 9, 10, 11, 12, 13, 14, 15]
def b16 : List Int := [0, 17, 34, 51, 68, 85, 102, 119, 136, 153, 170, 187, 204, 221, 238, 255]

/-- The error `validate` reports, or none. -/
def rejection (key block : List Int) (mode : Int) : Option InputError :=
  match validate ⟨key, block, mode⟩ with
  | .ok _ => none
  | .error e => some e

/-! ### WellFormed: an ill-formed term for each check (R76, R77) -/

theorem test_wf_refuses_kxr_index_0 : (Instr.kxr 0#4).wf = false := by decide
theorem test_wf_refuses_kxr_index_11 : (Instr.kxr 11#4).wf = false := by decide
theorem test_wf_refuses_ark_index_11 : (Instr.ark 11#4).wf = false := by decide
theorem test_wf_accepts_the_ends_of_both_ranges :
    (Instr.kxr 1#4).wf ∧ (Instr.kxr 10#4).wf ∧ (Instr.ark 0#4).wf ∧ (Instr.ark 10#4).wf := by decide

/-! ### Decode: a word of every constructor, written out from R72, R74, R75 -/

theorem test_decode_kld : decode (.uop 0b00010000#8) = .ok .kld := by decide
theorem test_decode_kxr : decode (.uop 0b00100110#8) = .ok (.kxr 6#4) := by decide
theorem test_decode_ldst : decode (.uop 0b00110000#8) = .ok .ldst := by decide
theorem test_decode_ark : decode (.uop 0b01001001#8) = .ok (.ark 9#4) := by decide
theorem test_decode_sb : decode (.uop 0b01010000#8) = .ok .sb := by decide
theorem test_decode_sr : decode (.uop 0b01100000#8) = .ok .sr := by decide
theorem test_decode_mc : decode (.uop 0b01110000#8) = .ok .mc := by decide
theorem test_decode_isb : decode (.uop 0b10000000#8) = .ok .isb := by decide
theorem test_decode_isr : decode (.uop 0b10010000#8) = .ok .isr := by decide
theorem test_decode_imc : decode (.uop 0b10100000#8) = .ok .imc := by decide
theorem test_decode_out : decode (.uop 0b10110000#8) = .ok .out := by decide

/-- Mode bit 0, byte 0 of the key 0x01, byte 15 of the key 0x80, byte 0 of the block 0xa0, byte 15 of the block 0x0f. -/
theorem test_decode_enc :
    decode (.cmd 0x001000000000000000000000000000080a000000000000000000000000000000f#257) =
      .ok (.enc (hex 0x01000000000000000000000000000080#128) (hex 0xa000000000000000000000000000000f#128)) := by
  decide +kernel

theorem test_decode_dec :
    decode (.cmd 0x101000000000000000000000000000080a000000000000000000000000000000f#257) =
      .ok (.dec (hex 0x01000000000000000000000000000080#128) (hex 0xa000000000000000000000000000000f#128)) := by
  decide +kernel

/-- Byte i of a field is at `[127 - 8i : 120 - 8i]` (R52, R72). -/
theorem test_field_byte_order :
    (hex 0x000102030405060708090a0b0c0d0e0f#128).get 0 = 0x00#8 ∧
    (hex 0x000102030405060708090a0b0c0d0e0f#128).get 7 = 0x07#8 ∧
    (hex 0x000102030405060708090a0b0c0d0e0f#128).get 15 = 0x0f#8 := by decide +kernel

/-- One word of each illegal class (R77). -/
theorem test_decode_refuses_illegal_words :
    decode (.uop 0x00#8) = .error (.illegalOp 0x00#8) ∧ decode (.uop 0xc0#8) = .error (.illegalOp 0xc0#8) ∧
    decode (.uop 0x20#8) = .error (.kxrIndex 0x20#8) ∧ decode (.uop 0x2b#8) = .error (.kxrIndex 0x2b#8) ∧
    decode (.uop 0x4b#8) = .error (.arkIndex 0x4b#8) ∧ decode (.uop 0x51#8) = .error (.strayOperand 0x51#8) := by decide

theorem test_encode_words :
    encode (.kxr 10#4) = .uop 0x2a#8 ∧ encode (.ark 4#4) = .uop 0x44#8 ∧ encode .out = .uop 0xb0#8 ∧
    encode (.dec (hex 0x01000000000000000000000000000080#128) (hex 0xa000000000000000000000000000000f#128)) =
      .cmd 0x101000000000000000000000000000080a000000000000000000000000000000f#257 := by decide +kernel

theorem test_table_word_numbering :
    decodeTableWord 8 0x2a = some (.kxr 10#4) ∧ decodeTableWord 8 0x20 = none ∧
    decodeTableWord 264 0 = some (.enc (hex 0#128) (hex 0#128)) := by decide +kernel

/-! ### Micro-operations, one step each: the examples of R111, R112, R131 to R134, R150 to R152, R172, R173 -/

theorem test_kld : nextHas (exec .kld { runningAt 0#7 with k := katKey }) (fun t => t.rk[0] = katKey ∧ t.upc = 1#7) := by
  decide +kernel

theorem test_kxr_1 :
    nextHas (exec (.kxr 1#4) { runningAt 1#7 with rk := Vector.replicate 11 katKey })
      (fun t => t.rk[1] = hex 0xd6aa74fdd2af72fadaa678f1d6ab76fe#128 ∧ t.rk[0] = katKey ∧ t.upc = 2#7) := by
  decide +kernel

theorem test_kxr_10 :
    nextHas (exec (.kxr 10#4)
        { runningAt 10#7 with rk := Vector.replicate 11 (hex 0x549932d1f08557681093ed9cbe2c974e#128) })
      (fun t => t.rk[10] = hex 0x13111d7fe3944a17f307a78b4d2b30c5#128) := by decide +kernel

theorem test_ldst :
    nextHas (exec .ldst { runningAt 11#7 with bin := katPlain }) (fun t => t.st = katPlain ∧ t.upc = 12#7) := by
  decide +kernel

theorem test_ark_0 :
    nextHas (exec (.ark 0#4) { runningAt 12#7 with st := katPlain, rk := Vector.replicate 11 katKey })
      (fun t => t.st = hex 0x00102030405060708090a0b0c0d0e0f0#128) := by decide +kernel

/-- The operand selects the round key: `RK[10]` alone is not zero here. -/
theorem test_ark_10_reads_its_own_round_key :
    nextHas (exec (.ark 10#4) { runningAt 51#7 with rk := (runningAt 51#7).rk.set 10 katKey }) (fun t => t.st = katKey) := by
  decide +kernel

theorem test_sb :
    nextHas (exec .sb { runningAt 13#7 with st := katKey })
      (fun t => t.st = hex 0x637c777bf26b6fc53001672bfed7ab76#128) := by decide +kernel

theorem test_sr :
    nextHas (exec .sr { runningAt 14#7 with st := katKey })
      (fun t => t.st = hex 0x00050a0f04090e03080d02070c01060b#128) := by decide +kernel

theorem test_mc :
    nextHas (exec .mc { runningAt 15#7 with st := hex 0xdb135345f20a225cd4d4d4d52d26314c#128 })
      (fun t => t.st = hex 0x8e4da1bc9fdc589dd5d5d7d64d7ebdf8#128) := by decide +kernel

theorem test_isb :
    nextHas (exec .isb { runningAt 78#7 with st := katKey })
      (fun t => t.st = hex 0x52096ad53036a538bf40a39e81f3d7fb#128) := by decide +kernel

theorem test_isr :
    nextHas (exec .isr { runningAt 77#7 with st := katKey })
      (fun t => t.st = hex 0x000d0a0704010e0b0805020f0c090603#128) := by decide +kernel

theorem test_imc :
    nextHas (exec .imc { runningAt 80#7 with st := hex 0x8e4da1bc01000000ff000000db135345#128 })
      (fun t => t.st = hex 0xdb1353450e090d0b8d4697a332a41d55#128) := by decide +kernel

theorem test_out :
    nextHas (exec .out { runningAt 52#7 with st := katCipher })
      (fun t => t.outb = katCipher ∧ t.status = .done ∧ t.upc = 52#7 ∧
        blockOut t = some 0x69c4e0d86a7b0430d8cdb78070b4c55a#128) := by decide +kernel

theorem test_enc_starts_at_entry_0 :
    nextHas (exec (.enc katKey katPlain) { zeros with status := .error, err := .raised .invalidMode })
      (fun t => t.k = katKey ∧ t.bin = katPlain ∧ t.mode = 0#1 ∧ t.upc = 0#7 ∧ t.status = .busy ∧ t.err = .none) := by
  decide +kernel

theorem test_dec_starts_at_entry_64 :
    nextHas (exec (.dec katKey katCipher) zeros)
      (fun t => t.k = katKey ∧ t.bin = katCipher ∧ t.mode = 1#1 ∧ t.upc = 64#7 ∧ t.status = .busy) := by decide +kernel

/-! ### The pure functions on the source's vector, and the word helpers (95_test_vectors.md 1.1, 2, 3) -/

theorem test_encrypt_known_answer : encryptBlock katKey katPlain = katCipher := by decide +kernel

theorem test_decrypt_known_answer : decryptBlock katKey katCipher = katPlain := by decide +kernel

theorem test_encrypt_all_zero : encryptBlock (hex 0#128) (hex 0#128) = hex 0x66e94bd4ef8a2c3b884cfa59ca342b2e#128 := by
  decide +kernel

theorem test_field_products : gmul 0x57#8 0x13#8 = 0xfe#8 ∧ gmul 0x57#8 0x83#8 = 0xc1#8 ∧ xtime 0x8e#8 = 0x07#8 := by
  decide +kernel

theorem test_word_helpers :
    rotword ⟨0x0c#8, 0x0d#8, 0x0e#8, 0x0f#8⟩ = ⟨0x0d#8, 0x0e#8, 0x0f#8, 0x0c#8⟩ ∧
    subword ⟨0x0d#8, 0x0e#8, 0x0f#8, 0x0c#8⟩ = ⟨0xd7#8, 0xab#8, 0x76#8, 0xfe#8⟩ ∧
    g ⟨0x09#8, 0xcf#8, 0x4f#8, 0x3c#8⟩ 1 = ⟨0x8b#8, 0x84#8, 0xeb#8, 0x01#8⟩ ∧
    g ⟨0xff#8, 0xff#8, 0xff#8, 0xff#8⟩ 10 = ⟨0x20#8, 0x16#8, 0x16#8, 0x16#8⟩ := by decide +kernel

/-! ### The boundary (95_test_vectors.md 8, by row) -/

/-- Rows 1 and 9. -/
theorem test_boundary_accepts :
    validate ⟨k16, b16, 0⟩ = .ok (.enc katKey katPlain) ∧ rejection (k16.set 15 255) b16 0 = none := by decide +kernel

/-- Rows 2, 3, 4, 12. -/
theorem test_boundary_key_length :
    rejection k16.dropLast b16 0 = some .invalidKeyLength ∧ rejection (k16 ++ [0]) b16 0 = some .invalidKeyLength ∧
    rejection [] b16 0 = some .invalidKeyLength ∧
    rejection k16.dropLast (b16 ++ [0]) 7 = some .invalidKeyLength := by decide +kernel

/-- Rows 5, 6, 13. -/
theorem test_boundary_block_length :
    rejection k16 b16.dropLast 1 = some .invalidBlockLength ∧ rejection k16 (b16 ++ [0]) 1 = some .invalidBlockLength ∧
    rejection k16 b16.dropLast 7 = some .invalidBlockLength := by decide +kernel

/-- Rows 7, 8, 14. -/
theorem test_boundary_byte_value :
    rejection (k16.set 3 256) b16 0 = some .invalidByteValue ∧ rejection k16 (b16.set 0 (-1)) 0 = some .invalidByteValue ∧
    rejection (k16.set 0 300) b16 7 = some .invalidByteValue := by decide +kernel

/-- Rows 10 and 11. -/
theorem test_boundary_mode :
    rejection k16 b16 2 = some .invalidMode ∧ rejection k16 b16 (-1) = some .invalidMode := by decide +kernel

/-! ### Steps -/

/-- 95_test_vectors.md 10.5. -/
theorem test_step_rejects :
    nextHas (step { zeros with inbox := [.request ⟨k16.dropLast, b16, 0⟩] })
      (fun t => t.status = .error ∧ errCode t.err = 1#3 ∧ t.upc = 0#7 ∧
        answer t = some (.error .invalidKeyLength)) := by decide +kernel

theorem test_step_starts_a_core_command :
    nextHas (step { zeros with inbox := [.start 1#1 (fieldOfBlock katKey) (fieldOfBlock katCipher)] })
      (fun t => t.k = katKey ∧ t.bin = katCipher ∧ t.upc = 64#7 ∧ t.status = .busy ∧ t.inbox = []) := by decide +kernel

theorem test_step_refuses_an_unused_entry : refusedWith (step (runningAt 53#7)) (.illegalUop 0x00#8) := by decide +kernel

theorem test_step_reset_during_a_command :
    nextHas (step { runningAt 20#7 with inbox := [.rst] }) (fun t => t.status = .idle ∧ t.err = .none ∧ t.upc = 0#7) := by
  decide +kernel

/-- The word `OUT` placed after reset runs as the first step. -/
theorem test_step_runs_a_placed_word :
    nextHas (step (State.reset.withFetchWord 8 0xb0)) (fun t => t.status = .done ∧ t.upc = 52#7) := by decide +kernel

theorem test_step_runs_a_placed_command :
    nextHas (step (State.reset.withFetchWord 264 0)) (fun t => t.status = .busy ∧ t.upc = 0#7 ∧ t.k = hex 0#128) := by
  decide +kernel

/-! ### Witnesses of the hypotheses of the statements -/

theorem witness_reset_event : currentInput { runningAt 20#7 with inbox := [.rst] } = .rst := rfl

theorem witness_decoder_ranges :
    (∀ w ∈ [0x21#8, 0x2a#8], 0x2#4 = uopOp w ∧ 1 ≤ (uopN w).toNat ∧ (uopN w).toNat ≤ 10) ∧
    (∀ w ∈ [0x40#8, 0x4a#8], 0x4#4 = uopOp w ∧ (uopN w).toNat ≤ 10) := by decide

theorem witness_well_formed :
    ∀ i ∈ [Instr.enc katKey katPlain, .dec katKey katPlain, .kld, .kxr 1#4, .kxr 10#4, .ldst, .ark 0#4, .ark 10#4, .sb,
      .sr, .mc, .isb, .isr, .imc, .out], i.wf = true := by decide +kernel

theorem witness_word_decodes :
    decode (.uop 0x2a#8) = .ok (.kxr 10#4) ∧ decode (.cmd 0#257) = .ok (.enc (hex 0#128) (hex 0#128)) := by
  decide +kernel

theorem witness_done : ({ zeros with status := .done } : State).status = .done := rfl

theorem witness_step_runs :
    (currentInput (runningAt 52#7) ≠ .rst ∧ (runningAt 52#7).status = .busy ∧
      decode (.uop (urom (runningAt 52#7).upc)) = .ok .out) ∧
    (currentInput { zeros with inbox := [.start 0#1 0#128 0#128] } = .start 0#1 0#128 0#128 ∧ zeros.status ≠ .busy ∧
      decode (.cmd (cmdWord 0#1 0#128 0#128)) = .ok (.enc (hex 0#128) (hex 0#128))) := by decide +kernel

theorem witness_placed_word :
    decodeTableWord 8 0x4a = some (.ark 10#4) ∧
    decodeTableWord 264 (2 ^ 256) = some (.dec (hex 0#128) (hex 0#128)) := by decide +kernel

theorem witness_illegal_word :
    (currentInput (runningAt 53#7) ≠ .rst ∧ (runningAt 53#7).status = .busy ∧
      decode (.uop (urom (runningAt 53#7).upc)) = .error (.illegalOp 0x00#8)) ∧
    ((0#4).toNat = 0 ∧ 10 < (11#4).toNat ∧ 10 < (15#4).toNat) := by decide +kernel

theorem witness_no_command : zeros.status ≠ .busy ∧ currentInput zeros = .quiet := by decide

theorem witness_command_while_busy :
    (runningAt 116#7).status = .busy ∧ HostInput.request ⟨[], [], 7⟩ ≠ .rst := by decide

theorem witness_command_start :
    zeros.status ≠ .busy ∧ (runningAt 0#7).status = .busy ∧
    currentInput { zeros with inbox := [.request ⟨k16, b16, 1⟩] } = .request ⟨k16, b16, 1⟩ ∧
    nextHas (step { zeros with inbox := [.request ⟨k16, b16, 1⟩] }) (fun t => t.status = .busy) := by decide +kernel

theorem witness_command_runs : zeros.status ≠ .busy ∧ HostInput.rst ∉ zeros.inbox.take 53 := by decide

theorem witness_two_commands_run : zeros.status ≠ .busy ∧ NoResetFor 106 zeros.inbox := by
  simp [NoResetFor, zeros]

/-- Commands may be presented through all 106 steps, and a reset may come right after the last. -/
theorem witness_two_commands_run_with_inputs :
    NoResetFor 106 (List.replicate 106 (HostInput.start 1#1 0#128 0#128) ++ [HostInput.rst]) := by simp [NoResetFor]

/-- Commands may be presented meanwhile, and a reset may come right after the last step. -/
theorem witness_command_runs_with_inputs :
    HostInput.rst ∉ (List.replicate 53 (HostInput.request ⟨[], [], 0⟩) ++ [HostInput.rst]).take 53 := by simp

theorem witness_command_started (m : BitVec 1) :
    ∃ t, exec (coreCommand m katKey katPlain) zeros = .next t := by
  fin_cases m <;> exact ⟨_, rfl⟩

theorem witness_upc : (runningAt 126#7).upc ≠ 127#7 ∧ (runningAt 127#7).upc = 127#7 := by decide

theorem witness_round_indices :
    ((1 : Fin 11).val = (1#4).toNat ∧ (0 : Fin 11).val + 1 = (1#4).toNat) ∧
    ((10 : Fin 11).val = (10#4).toNat ∧ (9 : Fin 11).val + 1 = (10#4).toNat) ∧
    (0 : Fin 11).val = (0#4).toNat ∧ 10 < (11#4).toNat := by decide

theorem witness_ark_corner_keys :
    (∀ i, (runningAt 12#7).rk[(0 : Fin 11)].get i = 0#8) ∧ (runningAt 12#7).rk[(0 : Fin 11)] = (runningAt 12#7).st := by
  decide +kernel

theorem witness_row_indices :
    ((0 : Fin 4).val = ((1 : Fin 4).val + (3 : Fin 4).val) % 4) ∧ ((15 : Fin 16).val = (3 + 4 * (3 % 4)) % 16) ∧
    ((7 : Fin 16).val = (3 + 16 - 4 * (3 % 4)) % 16) ∧
    (∀ r c, cell zeros.st r c = cell zeros.st r 0) := by decide +kernel

theorem witness_equal_column : ∀ r, cell (hex 0xc6c6c6c6000000000000000000000000#128) r 0 = 0xc6#8 := by decide +kernel

theorem witness_plain_uop : (Instr.ark 10#4).wf = true ∧ (∀ m key block, Instr.ark 10#4 ≠ coreCommand m key block) ∧
    Instr.ark 10#4 ≠ .out := by
  refine ⟨by decide, ?_, by decide⟩
  intro m key block
  unfold coreCommand
  split <;> simp

/-- Every instruction gives a next state somewhere. -/
theorem witness_every_instruction_completes :
    ∀ i ∈ [Instr.enc katKey katPlain, .dec katKey katPlain, .kld, .kxr 1#4, .kxr 10#4, .ldst, .ark 0#4, .ark 10#4, .sb,
      .sr, .mc, .isb, .isr, .imc, .out], nextHas (exec i zeros) (fun _ => true) = true := by decide +kernel

/-- Each inverse pair runs, one after the other. -/
theorem witness_inverse_pairs :
    ∀ p ∈ [(Instr.sb, Instr.isb), (.isb, .sb), (.sr, .isr), (.isr, .sr), (.mc, .imc), (.imc, .mc), (.ark 10#4, .ark 10#4)],
      nextHas (exec p.1 (runningAt 0#7)) (fun t => nextHas (exec p.2 t) (fun _ => true)) = true := by decide +kernel

theorem witness_flat_word_indices :
    (4 ≤ 4 ∧ 4 ≤ 43 ∧ 4 % 4 = 0) ∧ (4 ≤ 40 ∧ 40 ≤ 43 ∧ 40 % 4 = 0) ∧ (4 ≤ 5 ∧ 5 ≤ 43 ∧ 5 % 4 ≠ 0) ∧
    (4 ≤ 43 ∧ 43 ≤ 43 ∧ 43 % 4 ≠ 0) := by decide

theorem witness_room_for_the_key_schedule : (runningAt 0#7).upc.toNat ≤ 116 ∧ (runningAt 116#7).upc.toNat ≤ 116 := by
  decide

/-- A running command at its last entry, all of whose round keys are in place, keeps the invariant's premises. -/
theorem witness_invariant :
    Inv (runningAt 0#7) ∧ nextHas (step (runningAt 0#7)) (fun _ => true) = true ∧
    ControlInv { runningAt 116#7 with mode := 1#1 } := by
  refine ⟨⟨⟨fun _ => .inl ⟨rfl, by decide⟩, by decide⟩, ?_⟩, by decide +kernel, ⟨fun _ => .inr (by decide), by decide⟩⟩
  intro _ n h
  exact absurd h (by simp [position, runningAt])

theorem witness_two_histories :
    ({ zeros with status := .done, st := katPlain } : State).status ≠ .busy ∧
    ({ zeros with status := .error, err := .raised .invalidMode } : State).status ≠ .busy := by decide

theorem witness_validate_clauses :
    k16.dropLast.length ≠ 16 ∧ (k16 ++ [0]).length ≠ 16 ∧ k16.length = 16 ∧ b16.length = 16 ∧
    (k16.set 15 256).length = 16 ∧ (256 ∈ k16.set 15 256 ∧ (255 : Int) < 256) ∧
    (-1 ∈ b16.set 0 (-1) ∧ (-1 : Int) < 0) ∧ (∀ z ∈ k16, 0 ≤ z ∧ z ≤ 255) ∧ (∀ z ∈ b16, 0 ≤ z ∧ z ≤ 255) ∧
    (2 : Int) ≠ 0 ∧ (2 : Int) ≠ 1 ∧ (-1 : Int) ≠ 0 ∧ (-1 : Int) ≠ 1 := by decide +kernel

theorem witness_applicable_errors :
    Applies ⟨k16.dropLast, b16, 7⟩ .invalidKeyLength ∧ Applies ⟨k16.dropLast, b16, 7⟩ .invalidMode ∧
    Applies ⟨k16, b16.dropLast, 0⟩ .invalidBlockLength ∧ validate ⟨k16.dropLast, b16, 7⟩ = .error .invalidKeyLength := by
  refine ⟨by simp [Applies, k16], by simp [Applies], by simp [Applies, b16], by decide +kernel⟩

theorem witness_rejected_request :
    zeros.status ≠ .busy ∧
    currentInput { zeros with inbox := [.request ⟨k16, b16, 2⟩] } = .request ⟨k16, b16, 2⟩ ∧
    validate ⟨k16, b16, 2⟩ = .error .invalidMode := by decide +kernel

theorem witness_accepted_request :
    zeros.status ≠ .busy ∧
    currentInput { zeros with inbox := [.request ⟨k16, b16, 1⟩] } = .request ⟨k16, b16, 1⟩ ∧
    validate ⟨k16, b16, 1⟩ = .ok (.dec katKey katPlain) ∧ validate ⟨k16, b16, 0⟩ = .ok (.enc katKey katPlain) := by
  decide +kernel

/-- Each of the four changes of `STATUS` happens. -/
theorem witness_status_changes :
    nextHas (step { zeros with inbox := [.start 0#1 0#128 0#128] }) (fun t => t.status ≠ .idle ∧ t.status = .busy) ∧
    nextHas (step (runningAt 52#7)) (fun t => t.status ≠ .busy ∧ t.status = .done) ∧
    nextHas (step { zeros with inbox := [.request ⟨[], [], 0⟩] }) (fun t => t.status ≠ .idle ∧ t.status = .error) ∧
    nextHas (step { runningAt 20#7 with inbox := [.rst] }) (fun t => t.status ≠ .busy ∧ t.status = .idle) := by
  decide +kernel

/-- Each clause about a data register has a case in which the register does change. -/
theorem witness_data_register_changes :
    nextHas (exec .sb zeros) (fun t => t.st ≠ zeros.st) ∧
    nextHas (exec .kld { zeros with k := katKey }) (fun t => t.rk[(0 : Fin 11)] ≠ zeros.rk[(0 : Fin 11)]) ∧
    nextHas (exec (.kxr 10#4) zeros) (fun t => t.rk[(10 : Fin 11)] ≠ zeros.rk[(10 : Fin 11)]) ∧
    nextHas (exec (.dec katKey katPlain) zeros) (fun t => t.k ≠ zeros.k ∧ t.bin ≠ zeros.bin ∧ t.mode ≠ zeros.mode) ∧
    nextHas (exec .out { zeros with st := katPlain }) (fun t => t.outb ≠ zeros.outb) := by decide +kernel

theorem witness_busy_step :
    (runningAt 51#7).status = .busy ∧ currentInput (runningAt 51#7) ≠ .rst ∧
    decode (.uop (urom (runningAt 51#7).upc)) ≠ .ok .out ∧ nextHas (step (runningAt 51#7)) (fun _ => true) = true := by
  decide +kernel

theorem witness_host_reads :
    answer { zeros with status := .error, err := .raised .invalidMode } = some (.error .invalidMode) ∧
    ({ zeros with status := .idle } : State).status = .idle := by decide +kernel

theorem witness_round_constant_indices :
    (1 ≤ (1 : Fin 11).val ∧ (2 : Fin 11).val = (1 : Fin 11).val + 1) ∧
    (1 ≤ (9 : Fin 11).val ∧ (10 : Fin 11).val = (9 : Fin 11).val + 1) := by decide

end Sys2Proof.Tests
end

section
/-! SUPPORT. The micro-operations that move a running command on, as functions of the state: what one of them leaves,
what a list of them leaves, and the run of the machine over a stretch of `UROM` that holds such a list. -/

namespace Sys2Proof.Machine

variable {s : State}

/-! ### The host inputs a run uses up -/

/-- The next `n` host inputs are used up. -/
def takeInputs (n : Nat) (s : State) : State := { s with inbox := s.inbox.drop n }

@[simp] theorem takeInputs_takeInputs (m n : Nat) : takeInputs m (takeInputs n s) = takeInputs (n + m) s := by
  simp [takeInputs]

theorem popInput_eq_takeInputs : popInput s = takeInputs 1 s := by simp [popInput, takeInputs]

@[simp] theorem takeInputs_st (n : Nat) : (takeInputs n s).st = s.st := rfl
@[simp] theorem takeInputs_upc (n : Nat) : (takeInputs n s).upc = s.upc := rfl
@[simp] theorem takeInputs_status (n : Nat) : (takeInputs n s).status = s.status := rfl
@[simp] theorem takeInputs_inbox (n : Nat) : (takeInputs n s).inbox = s.inbox.drop n := rfl

theorem currentInput_ne_rst {n : Nat} (h : NoResetFor (n + 1) s.inbox) : currentInput s ≠ .rst := by
  unfold NoResetFor at h
  unfold currentInput
  cases hi : s.inbox with
  | nil => simp
  | cons input rest => simp_all [eq_comm]

theorem noResetFor_drop {m n : Nat} {inputs : List HostInput} (h : NoResetFor (m + n) inputs) :
    NoResetFor n (inputs.drop m) := by
  intro hmem
  refine h ?_
  rw [List.take_add]
  exact List.mem_append_right _ hmem

theorem noResetFor_of_le {m n : Nat} {inputs : List HostInput} (hmn : m ≤ n) (h : NoResetFor n inputs) :
    NoResetFor m inputs := fun hmem => h (List.take_subset_take_left _ hmn hmem)

/-! ### One micro-operation -/

/-- The micro-operations that end in `UPC <- UPC + 1`, with a round index in range: all but `OUT` (R76, R170). -/
def movesOn : Instr → Bool
  | .enc _ _ => false
  | .dec _ _ => false
  | .out => false
  | i => i.wf

/-- The data write of such a micro-operation: `ST` or one round key. -/
def written (s : State) (i : Instr) : State :=
  match newSt i s with
  | some b => setSt s b
  | none =>
    match newRk i s with
    | some (n, b) => setRk s n b
    | none => s

/-- What such a micro-operation leaves where `UPC` can be advanced. -/
def microStep (s : State) (i : Instr) : State := advanced (written s i)

theorem newSt_or_newRk_of_movesOn {i : Instr} (h : movesOn i = true) :
    (∃ b, newSt i s = some b) ∨ newSt i s = none ∧ ∃ n b, newRk i s = some (n, b) := by
  cases i with
  | enc => cases h
  | dec => cases h
  | out => cases h
  | kld => exact .inr ⟨rfl, _, _, rfl⟩
  | kxr n =>
    have hn : 1 ≤ n.toNat ∧ n.toNat ≤ 10 := by simpa [movesOn, Instr.wf, kxrIndexOk] using h
    exact .inr ⟨rfl, by simp [newRk, kxrOperand, hn]⟩
  | ark n =>
    have hn : n.toNat ≤ 10 := by simpa [movesOn, Instr.wf, arkIndexOk] using h
    exact .inl (by simp [newSt, arkOperand, hn])
  | ldst => exact .inl ⟨_, rfl⟩
  | sb => exact .inl ⟨_, rfl⟩
  | sr => exact .inl ⟨_, rfl⟩
  | mc => exact .inl ⟨_, rfl⟩
  | isb => exact .inl ⟨_, rfl⟩
  | isr => exact .inl ⟨_, rfl⟩
  | imc => exact .inl ⟨_, rfl⟩

/-- `microStep` is the meaning of these micro-operations. -/
theorem exec_of_movesOn {i : Instr} (h : movesOn i = true) (hu : s.upc ≠ 127#7) :
    exec i s = .next (microStep s i) := by
  rcases newSt_or_newRk_of_movesOn (s := s) h with ⟨b, hb⟩ | ⟨hn, n, b, hb⟩
  · rw [exec_of_newSt hb, advance_of_ne (by exact hu)]
    simp [microStep, written, hb]
  · rw [exec_of_newRk hb, advance_of_ne (by exact hu)]
    simp [microStep, written, hn, hb]

/-- A micro-operation reads no host input, so it does not matter whether its own is used up before or after it. -/
theorem microStep_takeInputs (n : Nat) (i : Instr) : microStep (takeInputs n s) i = takeInputs n (microStep s i) := by
  have hst : newSt i (takeInputs n s) = newSt i s := by cases i <;> rfl
  have hrk : newRk i (takeInputs n s) = newRk i s := by cases i <;> rfl
  unfold microStep written
  rw [hst, hrk]
  split
  · rfl
  · split <;> rfl

/-- The frame of one micro-operation. -/
theorem microStep_eq (i : Instr) : ∃ b rk, microStep s i = { s with st := b, rk := rk, upc := s.upc + 1#7 } := by
  unfold microStep written
  split
  · exact ⟨_, _, rfl⟩
  · split
    · exact ⟨_, _, rfl⟩
    · exact ⟨_, _, rfl⟩

/-! ### A list of micro-operations -/

theorem foldl_microStep_takeInputs (n : Nat) (is : List Instr) :
    is.foldl microStep (takeInputs n s) = takeInputs n (is.foldl microStep s) := by
  induction is generalizing s with
  | nil => rfl
  | cons i is ih => rw [List.foldl_cons, microStep_takeInputs, ih, List.foldl_cons]

/-- The frame of a list of micro-operations. -/
theorem foldl_microStep_eq (is : List Instr) :
    ∃ b rk, is.foldl microStep s = { s with st := b, rk := rk, upc := s.upc + BitVec.ofNat 7 is.length } := by
  induction is generalizing s with
  | nil => exact ⟨s.st, s.rk, by simp⟩
  | cons i is ih =>
    obtain ⟨b, rk, hi⟩ := microStep_eq (s := s) i
    obtain ⟨b', rk', his⟩ := ih (s := microStep s i)
    refine ⟨b', rk', ?_⟩
    rw [List.foldl_cons, his, hi, List.length_cons, Nat.add_comm, BitVec.ofNat_add, ← BitVec.add_assoc]

section Fields

variable (is : List Instr)

@[simp] theorem foldl_microStep_bin : (is.foldl microStep s).bin = s.bin := by
  obtain ⟨b, rk, h⟩ := foldl_microStep_eq (s := s) is
  rw [h]

@[simp] theorem foldl_microStep_upc : (is.foldl microStep s).upc = s.upc + BitVec.ofNat 7 is.length := by
  obtain ⟨b, rk, h⟩ := foldl_microStep_eq (s := s) is
  rw [h]

@[simp] theorem foldl_microStep_status : (is.foldl microStep s).status = s.status := by
  obtain ⟨b, rk, h⟩ := foldl_microStep_eq (s := s) is
  rw [h]

@[simp] theorem foldl_microStep_inbox : (is.foldl microStep s).inbox = s.inbox := by
  obtain ⟨b, rk, h⟩ := foldl_microStep_eq (s := s) is
  rw [h]

end Fields

/-! ### The machine on a stretch of `UROM` -/

/-- `UROM` holds the list from entry `a` on, and all of it moves on, at entries where `UPC` can be advanced (R23). -/
def stretchAt (a : BitVec 7) : List Instr → Bool
  | [] => true
  | i :: is => decode (.uop (urom a)) = .ok i && movesOn i && a ≠ 127#7 && stretchAt (a + 1#7) is

/-- The sequencer executes the instruction at `UPC` (R170). -/
theorem step_busy_of_decode {i : Instr} (hin : currentInput s ≠ .rst) (hb : s.status = .busy)
    (hd : decode (.uop (urom s.upc)) = .ok i) : step s = exec i (takeInputs 1 s) := by
  rw [step_busy hin hb, popInput_eq_takeInputs, runWord, hd]

/-- Over a stretch the machine runs its list, one micro-operation a step, whatever commands are presented (R170). -/
theorem runSteps_of_stretchAt {is : List Instr} (h : stretchAt s.upc is = true) (hb : s.status = .busy)
    (hin : NoResetFor is.length s.inbox) :
    runSteps is.length s = .next (takeInputs is.length (is.foldl microStep s)) := by
  induction is generalizing s with
  | nil => rfl
  | cons i is ih =>
    obtain ⟨⟨⟨hd, hm⟩, hu⟩, hrest⟩ : ((decode (.uop (urom s.upc)) = .ok i ∧ movesOn i = true) ∧ s.upc ≠ 127#7) ∧
        stretchAt (s.upc + 1#7) is = true := by simpa [stretchAt] using h
    have hstep : step s = .next (takeInputs 1 (microStep s i)) := by
      rw [step_busy_of_decode (currentInput_ne_rst hin) hb hd, exec_of_movesOn hm (by exact hu), microStep_takeInputs]
    obtain ⟨b, rk, hi⟩ := microStep_eq (s := s) i
    rw [List.length_cons, runSteps_succ_of_step _ hstep, ih (by simpa [hi] using hrest) (by simpa [hi] using hb)
      (by simpa [hi] using noResetFor_drop (m := 1) (Nat.add_comm _ 1 ▸ hin)), foldl_microStep_takeInputs,
      takeInputs_takeInputs, Nat.add_comm, List.foldl_cons]

end Sys2Proof.Machine
end

section
/-! SUPPORT. What the two programs leave in `ST`: `EXPAND` fills the round-key file with `expand(K)` (R113), the rounds
fold over it as `encrypt_block` and `decrypt_block` do (R175, R176), and `OUT` delivers the result (R173). -/

namespace Sys2Proof.Machine

variable {s : State}

/-! ### The round index as an operand -/

/-- The operand field of round index `r` (R76). -/
def roundOperand (r : Fin 11) : BitVec 4 := BitVec.ofNat 4 r

theorem roundOperand_toNat (r : Fin 11) : (roundOperand r).toNat = r.val := by
  simp [roundOperand]
  omega

theorem arkOperand_roundOperand (r : Fin 11) : arkOperand (roundOperand r) = some r :=
  arkOperand_eq_some_iff.mpr (roundOperand_toNat r).symm

theorem kxrOperand_roundOperand {src dst : Fin 11} (h : src.val + 1 = dst.val) :
    kxrOperand (roundOperand dst) = some (src, dst) :=
  kxrOperand_eq_some_iff.mpr ⟨(roundOperand_toNat dst).symm, h⟩

/-! ### The key schedule -/

/-- The round keys below index `n` are those of `expand(key)`. -/
def KeysUpTo (key : Block) (n : Nat) (s : State) : Prop := ∀ m : Fin 11, m.val < n → s.rk[m] = roundKey key m

theorem keysUpTo_kld : KeysUpTo s.k 1 (microStep s .kld) := by
  intro m hm
  obtain rfl : m = 0 := by omega
  exact setRk_rk_same s 0 s.k

/-- `KXR n` makes the next round key from the last one made (R112). -/
theorem keysUpTo_kxr {key : Block} {src dst : Fin 11} (hn : src.val + 1 = dst.val) (h : KeysUpTo key dst.val s) :
    KeysUpTo key (dst.val + 1) (microStep s (.kxr (roundOperand dst))) := by
  have hstep : microStep s (.kxr (roundOperand dst)) = advanced (setRk s dst (nextRoundKey s.rk[src] dst)) := by
    simp [microStep, written, newSt, newRk, kxrOperand_roundOperand hn]
  intro m hm
  rw [hstep, advanced_rk]
  by_cases he : m = dst
  · subst he
    have hsrc : s.rk[src] = roundKey key src := h src (by omega)
    have hm : Fin.ofNat 11 (src.val + 1) = m := by ext; simp; omega
    rw [setRk_rk_same, hsrc, ← hn, roundKey, hm]
  · rw [setRk_rk_other s dst m _ he]
    exact h m (by omega)

/-- `EXPAND` continues with `KXR n` for n = 1..10 (R81). -/
theorem expandBody_take_succ : ∀ n : Fin 11, n ≠ 0 →
    expandBody.take (n.val + 1) = expandBody.take n.val ++ [.kxr (roundOperand n)] := by decide

theorem keysUpTo_expandBody_take (n : Nat) (hn : n < 11) :
    KeysUpTo s.k (n + 1) ((expandBody.take (n + 1)).foldl microStep s) := by
  induction n with
  | zero => exact keysUpTo_kld
  | succ n ih =>
    rw [expandBody_take_succ ⟨n + 1, hn⟩ (by simp), List.foldl_append]
    exact keysUpTo_kxr (src := ⟨n, by omega⟩) (dst := ⟨n + 1, hn⟩) rfl (ih (by omega))

/-- After `EXPAND` the whole round-key file is `expand(K)` (R113). -/
theorem foldl_expandBody_rk : (expandBody.foldl microStep s).rk = expand s.k := by
  ext n hn : 1
  have h : (expandBody.foldl microStep s).rk[(⟨n, hn⟩ : Fin 11)] = roundKey s.k n :=
    keysUpTo_expandBody_take (s := s) 10 (by decide) ⟨n, hn⟩ hn
  exact h.trans (expand_getElem s.k ⟨n, hn⟩).symm

/-! ### The rounds -/

/-- A list of micro-operations that writes no round key and computes `f` of the round keys and the State. -/
def Computes (is : List Instr) (f : Vector Block 11 → Block → Block) : Prop :=
  ∀ s : State, (is.foldl microStep s).st = f s.rk s.st ∧ (is.foldl microStep s).rk = s.rk

theorem computes_of_newSt {i : Instr} {f : Vector Block 11 → Block → Block} (h : ∀ s, newSt i s = some (f s.rk s.st)) :
    Computes [i] f := by
  intro s
  simp [microStep, written, h]

theorem Computes.append {is js : List Instr} {f g : Vector Block 11 → Block → Block} (hf : Computes is f)
    (hg : Computes js g) : Computes (is ++ js) (fun rk b => g rk (f rk b)) := by
  intro s
  obtain ⟨hst, hrk⟩ := hf s
  obtain ⟨hst', hrk'⟩ := hg (is.foldl microStep s)
  rw [List.foldl_append, hst', hrk', hst, hrk]
  exact ⟨rfl, rfl⟩

theorem computes_sb : Computes [.sb] fun _ b => subBytes b := computes_of_newSt fun _ => rfl
theorem computes_sr : Computes [.sr] fun _ b => shiftRows b := computes_of_newSt fun _ => rfl
theorem computes_mc : Computes [.mc] fun _ b => mixColumns b := computes_of_newSt fun _ => rfl
theorem computes_isb : Computes [.isb] fun _ b => invSubBytes b := computes_of_newSt fun _ => rfl
theorem computes_isr : Computes [.isr] fun _ b => invShiftRows b := computes_of_newSt fun _ => rfl
theorem computes_imc : Computes [.imc] fun _ b => invMixColumns b := computes_of_newSt fun _ => rfl

theorem computes_ark (r : Fin 11) : Computes [.ark (roundOperand r)] fun rk b => addRoundKey b rk[r] :=
  computes_of_newSt fun _ => by simp [newSt, arkOperand_roundOperand]

/-- `ROUND r` (R81) is one inner round of `encrypt_block` (R175). -/
theorem computes_roundBody (r : Fin 11) :
    Computes (roundBody (roundOperand r)) fun rk b => encryptRound rk b r :=
  computes_sb.append (computes_sr.append (computes_mc.append (computes_ark r)))

/-- `INVROUND r` (R81) is one inner round of `decrypt_block` (R176, R178). -/
theorem computes_invRoundBody (r : Fin 11) :
    Computes (invRoundBody (roundOperand r)) fun rk b => decryptRound rk b r :=
  computes_isr.append (computes_isb.append ((computes_ark r).append computes_imc))

/-- Rounds one after the other fold the function of one round over the round indices. -/
theorem computes_rounds {body : BitVec 4 → List Instr} {f : Vector Block 11 → Block → Fin 11 → Block}
    (h : ∀ r, Computes (body (roundOperand r)) fun rk b => f rk b r) (rs : List (Fin 11)) :
    Computes ((rs.map roundOperand).flatMap body) fun rk b => rs.foldl (f rk) b := by
  induction rs with
  | nil => exact fun _ => ⟨rfl, rfl⟩
  | cons r rs ih => exact (h r).append ih

/-! ### The two programs up to `OUT` -/

/-- The part of the `ENC` body (R81) between `LDST` and `OUT`. -/
def encRounds : List Instr :=
  [.ark (roundOperand 0)]
    ++ ((([1, 2, 3, 4, 5, 6, 7, 8, 9] : List (Fin 11)).map roundOperand).flatMap roundBody ++ finalRoundBody)

/-- The part of the `DEC` body (R81) between `LDST` and `OUT`. -/
def decRounds : List Instr :=
  [.ark (roundOperand 10)]
    ++ ((([9, 8, 7, 6, 5, 4, 3, 2, 1] : List (Fin 11)).map roundOperand).flatMap invRoundBody ++ invFinalBody)

theorem foldl_encRounds_st {key : Block} (h : s.rk = expand key) :
    (encRounds.foldl microStep s).st = encryptBlock key s.st := by
  have final := computes_sb.append (computes_sr.append (computes_ark 10))
  obtain ⟨hst, -⟩ := (computes_ark 0).append ((computes_rounds computes_roundBody _).append final) s
  rw [h] at hst
  exact hst

theorem foldl_decRounds_st {key : Block} (h : s.rk = expand key) :
    (decRounds.foldl microStep s).st = decryptBlock key s.st := by
  have final := computes_isr.append (computes_isb.append (computes_ark 0))
  obtain ⟨hst, -⟩ := (computes_ark 10).append ((computes_rounds computes_invRoundBody _).append final) s
  rw [h] at hst
  exact hst

/-- The program that `MODE` selects (R81, R174), up to its `OUT`. -/
def programOf (mode : BitVec 1) : List Instr :=
  expandBody ++ .ldst :: (if mode = 0#1 then encRounds else decRounds)

/-- The pure function of a command (R175, R176). -/
def cipherOf (mode : BitVec 1) (key block : Block) : Block :=
  if mode = 0#1 then encryptBlock key block else decryptBlock key block

/-- These are the two bodies of R81. -/
theorem programOf_append_out (mode : BitVec 1) :
    programOf mode ++ [.out] = if mode = 0#1 then encBody else decBody := by
  revert mode
  decide

theorem programOf_length (mode : BitVec 1) : (programOf mode).length = 52 := by
  revert mode
  decide

theorem microStep_ldst : microStep s .ldst = advanced (setSt s s.bin) := rfl

/-- A program computes the function of its command from the latched key and block. -/
theorem foldl_programOf_st (mode : BitVec 1) :
    ((programOf mode).foldl microStep s).st = cipherOf mode s.k s.bin := by
  rw [programOf, cipherOf, List.foldl_append, List.foldl_cons]
  have hrk : (microStep (expandBody.foldl microStep s) .ldst).rk = expand s.k := by
    rw [microStep_ldst, advanced_rk, setSt_rk, foldl_expandBody_rk]
  have hst : (microStep (expandBody.foldl microStep s) .ldst).st = s.bin := by
    rw [microStep_ldst, advanced_st, setSt_st, foldl_microStep_bin]
  split
  · rw [foldl_encRounds_st hrk, hst]
  · rw [foldl_decRounds_st hrk, hst]

/-! ### The two programs on the machine -/

theorem stretchAt_programOf (mode : BitVec 1) : stretchAt (entryUpc mode) (programOf mode) = true := by
  revert mode
  decide +kernel

theorem decode_urom_out (mode : BitVec 1) : decode (.uop (urom (entryUpc mode + 52#7))) = .ok .out := by
  revert mode
  decide +kernel

/-- A started command runs its program and then `OUT`, in 53 steps (R175, R176, R177). -/
theorem runSteps_of_started {mode : BitVec 1} (hb : s.status = .busy) (hu : s.upc = entryUpc mode)
    (hin : NoResetFor 53 s.inbox) :
    runSteps 53 s = .next (finishedState (takeInputs 53 ((programOf mode).foldl microStep s))) := by
  have hprog := runSteps_of_stretchAt (s := s) (is := programOf mode) (hu ▸ stretchAt_programOf mode) hb
    (noResetFor_of_le (by simp [programOf_length]) hin)
  rw [programOf_length] at hprog
  have hout : step (takeInputs 52 ((programOf mode).foldl microStep s)) =
      .next (finishedState (takeInputs 53 ((programOf mode).foldl microStep s))) := by
    rw [step_busy_of_decode (i := .out) (currentInput_ne_rst (n := 0) ?_) (by simpa using hb) ?_, takeInputs_takeInputs]
    · rfl
    · simpa using noResetFor_drop (m := 52) hin
    · simpa [programOf_length, hu] using decode_urom_out mode
  rw [runSteps_add 52 1 hprog, runSteps_succ_of_step 0 hout, runSteps_zero]

/-! ### The boundary -/

theorem answer_of_done (h : s.status = .done) :
    answer s = some (.ok (List.ofFn fun i : Fin 16 => ((s.outb.get i).toNat : Int))) := by
  simp [answer, h]

/-- A command given while none runs is started (R171). -/
theorem exec_coreCommand (mode : BitVec 1) (key block : Block) (hb : s.status ≠ .busy) :
    exec (coreCommand mode key block) s = .next (startedState s mode key block) := by
  have start : startCommand s mode key block = .next (startedState s mode key block) :=
    startCommand_next_iff.mpr (.inr ⟨hb, rfl⟩)
  rcases BitVec.eq_zero_or_eq_one mode with rfl | rfl
  · exact start
  · exact start

/-- A rejected boundary command is answered by its error after one step (R206, R207). -/
theorem answer_of_rejected {c : BCmd} {e : InputError} (hb : s.status ≠ .busy) (hc : currentInput s = .request c)
    (he : validate c = .error e) : ∃ t, runSteps 1 s = .next t ∧ answer t = some (.error e) := by
  have hstep : step s = .next (raiseError (popInput s) e) := by rw [step_request hc hb, runRequest, he]
  exact ⟨_, runSteps_succ_of_step 0 hstep, rfl⟩

/-- An accepted boundary command is answered after command start and 53 steps by the function of its command (R171,
R173, R175, R176). -/
theorem answer_of_accepted {c : BCmd} {mode : BitVec 1} {key block : Block} (hb : s.status ≠ .busy)
    (hc : currentInput s = .request c) (hv : validate c = .ok (coreCommand mode key block))
    (hin : NoResetFor 53 s.inbox.tail) :
    ∃ t, runSteps 54 s = .next t ∧
      answer t = some (.ok (List.ofFn fun i : Fin 16 => (((cipherOf mode key block).get i).toNat : Int))) := by
  have hstep : step s = .next (startedState (popInput s) mode key block) := by
    rw [step_request hc hb, runRequest, hv]
    exact exec_coreCommand mode key block hb
  refine ⟨_, (runSteps_succ_of_step 53 hstep).trans (runSteps_of_started rfl rfl hin), ?_⟩
  rw [answer_of_done rfl, finishedState_outb, takeInputs_st, foldl_programOf_st, startedState_k, startedState_bin]

/-- Settles O48: a rejection is answered at once, and an accepted command by the run of its program. -/
theorem boundaryAnswerIsTheFunctionOrTheError : Obligations.BoundaryAnswerIsTheFunctionOrTheError := by
  unfold Obligations.BoundaryAnswerIsTheFunctionOrTheError
  intro s c rest hb hi hin
  have hc : currentInput s = .request c := by rw [currentInput, hi, List.headD_cons]
  have hrest : NoResetFor 53 s.inbox.tail := by rwa [hi]
  refine ⟨fun e he => ?_, fun key block hv => ?_, fun key block hv => ?_⟩
  · exact answer_of_rejected hb hc he
  · exact answer_of_accepted (mode := 0#1) hb hc hv hrest
  · exact answer_of_accepted (mode := 1#1) hb hc hv hrest

end Sys2Proof.Machine
end

section
/-! SUPPORT. The S-box as the affine map of the field inverse (R32). The inverse is read back from the table: it is what
the inverse of the affine map makes of an entry. -/

namespace Sys2Proof.Machine

/-- The inverse of the affine map of R32. -/
def sboxAffineInv (x : Byte) : Byte :=
  x.rotateLeft 1 ^^^ x.rotateLeft 3 ^^^ x.rotateLeft 6 ^^^ 0x05#8

theorem sboxAffine_sboxAffineInv (x : Byte) : sboxAffine (sboxAffineInv x) = x := by
  revert x
  decide +kernel

theorem sboxAffineInv_sub_zero : sboxAffineInv (sub 0#8) = 0#8 := by decide

/-- The one fact about the entries of the table: behind the affine map stands the field inverse of the index. -/
theorem gmul_sboxAffineInv_sub {b : Byte} (hb : b ≠ 0#8) : gmul b (sboxAffineInv (sub b)) = 1#8 := by
  revert b
  decide +kernel

/-- Settles O57: an entry is the affine map of what the inverse map makes of it, and that is the field inverse. -/
theorem sboxIsAffineOfTheInverse : Obligations.SboxIsAffineOfTheInverse := by
  unfold Obligations.SboxIsAffineOfTheInverse
  intro b
  refine ⟨sboxAffineInv (sub b), ?_, (sboxAffine_sboxAffineInv (sub b)).symm⟩
  rcases eq_or_ne b 0#8 with rfl | hb
  · exact .inl ⟨rfl, sboxAffineInv_sub_zero⟩
  · exact .inr (gmul_sboxAffineInv_sub hb)

end Sys2Proof.Machine
end

section
/-! SUPPORT. The decoder of micro-operation words (R79) and the places of the fields of a core command word (R72). -/

namespace Sys2Proof

/-! ### The micro-operation word -/

/-- `KXR n` decodes exactly on its operand range (R76, R77). -/
theorem decodeUop_of_op_kxr {w : BitVec 8} (hop : uopOp w = 0x2#4) :
    decodeUop w = if 1 ≤ (uopN w).toNat ∧ (uopN w).toNat ≤ 10 then .ok (.kxr (uopN w)) else .error (.kxrIndex w) :=
  if_pos hop

/-- `ARK n` decodes exactly on its operand range (R76, R77). -/
theorem decodeUop_of_op_ark {w : BitVec 8} (hop : uopOp w = 0x4#4) :
    decodeUop w = if (uopN w).toNat ≤ 10 then .ok (.ark (uopN w)) else .error (.arkIndex w) := by
  simp [decodeUop, hop]

/-- The words that decode are the 30 that R79 lists. -/
theorem decodeUop_toBool_iff (w : BitVec 8) : (decodeUop w).toBool = true ↔ w ∈ Laws.LegalWord.legalWords := by
  revert w
  decide

/-- Settles O4: the two operations with a round index by their ranges, the others by their one word each. -/
theorem decoderFollowsTheOpcodeMap : Obligations.DecoderFollowsTheOpcodeMap := by
  unfold Obligations.DecoderFollowsTheOpcodeMap
  refine ⟨fun w hop h1 h10 => ?_, fun w hop h10 => ?_, rfl, rfl, rfl, rfl, rfl, rfl, rfl, rfl, rfl, ?_⟩
  · exact (decodeUop_of_op_kxr hop.symm).trans (if_pos ⟨h1, h10⟩)
  · exact (decodeUop_of_op_ark hop.symm).trans (if_pos h10)
  · exact decodeUop_toBool_iff

/-! ### The core command word -/

/-- A part of a part stands at the sum of the two places. -/
theorem extractLsb'_of_extractLsb' {n start start' len len' : Nat} (x : BitVec n) (h : start' + len' ≤ len) :
    (x.extractLsb' start len).extractLsb' start' len' = x.extractLsb' (start + start') len' := by
  ext j hj
  simp [show start' + j < len by omega, Nat.add_assoc]

/-- Byte `i` of `CCMD[255:128]` (R72). -/
theorem fieldByte_cmdKey (w : BitVec 257) (i : Fin 16) : fieldByte (cmdKey w) i = w.extractLsb' (248 - 8 * i.val) 8 := by
  rw [fieldByte, cmdKey, extractLsb'_of_extractLsb' w (by omega), show 128 + (120 - 8 * i.val) = 248 - 8 * i.val by omega]

/-- Byte `i` of `CCMD[127:0]` (R72). -/
theorem fieldByte_cmdBlock (w : BitVec 257) (i : Fin 16) :
    fieldByte (cmdBlock w) i = w.extractLsb' (120 - 8 * i.val) 8 := by
  rw [fieldByte, cmdBlock, extractLsb'_of_extractLsb' w (by omega), Nat.zero_add]

@[simp] theorem get_blockOfField (x : BitVec 128) (i : Fin 16) : (blockOfField x).get i = fieldByte x i := by
  simp [blockOfField]

/-- `CCMD[256]` selects the command (R72, R73). -/
theorem coreCommand_cmdMode (w : BitVec 257) (key block : Block) :
    coreCommand (cmdMode w) key block = if w.getLsbD 256 then .dec key block else .enc key block := by
  have hmode : cmdMode w = BitVec.ofBool (w.getLsbD 256) := by
    ext j hj
    obtain rfl : j = 0 := by omega
    simp [cmdMode]
  rw [hmode]
  cases w.getLsbD 256 <;> rfl

/-- Settles O7: the mode bit and the two fields are read at their places, and the answer is `OUTB` as a field. -/
theorem commandWordCarriesModeKeyBlock : Obligations.CommandWordCarriesModeKeyBlock := by
  unfold Obligations.CommandWordCarriesModeKeyBlock
  refine ⟨fun w => ⟨blockOfField (cmdKey w), blockOfField (cmdBlock w), ?_, fun i => ?_, fun i => ?_⟩,
    fun s hs => ⟨fieldOfBlock s.outb, if_pos hs, fun i => fieldByte_fieldOfBlock s.outb i⟩⟩
  · exact congrArg Except.ok (coreCommand_cmdMode w _ _)
  · rw [get_blockOfField, fieldByte_cmdKey]
  · rw [get_blockOfField, fieldByte_cmdBlock]

end Sys2Proof
end

section
/-! SUPPORT. The sequence `EXPAND` executed as a list of instructions from any state with room for it (R81, R113). -/

namespace Sys2Proof.Machine

variable {s : State}

/-- Executing micro-operations that move on is `microStep` folded over them, as long as `UPC` can be advanced (R23). -/
theorem execAll_of_movesOn {is : List Instr} (h : ∀ i ∈ is, movesOn i = true) (hu : s.upc.toNat + is.length ≤ 127) :
    execAll is s = .next (is.foldl microStep s) := by
  induction is generalizing s with
  | nil => rfl
  | cons i is ih =>
    obtain ⟨hi, his⟩ := List.forall_mem_cons.mp h
    rw [List.length_cons] at hu
    have hne : s.upc ≠ 127#7 := by bv_omega
    have hupc : (microStep s i).upc = s.upc + 1#7 := by
      obtain ⟨b, rk, he⟩ := microStep_eq (s := s) i
      rw [he]
    rw [execAll, exec_of_movesOn hi hne, List.foldl_cons]
    exact ih his (by rw [hupc]; bv_omega)

@[simp] theorem foldl_microStep_k (is : List Instr) : (is.foldl microStep s).k = s.k := by
  obtain ⟨b, rk, h⟩ := foldl_microStep_eq (s := s) is
  rw [h]

@[simp] theorem foldl_microStep_outb (is : List Instr) : (is.foldl microStep s).outb = s.outb := by
  obtain ⟨b, rk, h⟩ := foldl_microStep_eq (s := s) is
  rw [h]

theorem microStep_st_of_newSt_none {i : Instr} (h : newSt i s = none) : (microStep s i).st = s.st := by
  rw [microStep, written, h, advanced_st]
  cases newRk i s <;> rfl

/-- Micro-operations that give no new State leave `ST` as it was. -/
theorem foldl_microStep_st {is : List Instr} (h : ∀ i ∈ is, ∀ s, newSt i s = none) :
    (is.foldl microStep s).st = s.st := by
  induction is generalizing s with
  | nil => rfl
  | cons i is ih =>
    obtain ⟨hi, his⟩ := List.forall_mem_cons.mp h
    rw [List.foldl_cons, ih his, microStep_st_of_newSt_none (hi s)]

theorem newSt_of_mem_expandBody : ∀ i ∈ expandBody, ∀ s, newSt i s = none := by
  simp [expandBody, newSt]

/-- Settles O36: `EXPAND` is 11 micro-operations that move on, none of which writes `ST`. -/
theorem keyScheduleSequenceExpandsTheKey : Obligations.KeyScheduleSequenceExpandsTheKey := by
  unfold Obligations.KeyScheduleSequenceExpandsTheKey
  intro s hu
  have hlen : expandBody.length = 11 := rfl
  refine ⟨expandBody.foldl microStep s, execAll_of_movesOn (by decide) (by omega), foldl_expandBody_rk,
    foldl_microStep_k _, foldl_microStep_st newSt_of_mem_expandBody, foldl_microStep_bin _, foldl_microStep_outb _, ?_⟩
  rw [foldl_microStep_upc, hlen]
  bv_omega

end Sys2Proof.Machine
end

section
/-! SUPPORT. Field arithmetic and the constant tables (R91 to R94, R100): `xtime` and `gmul` respect XOR, and the other
laws of the product follow from that and from its neutral element. -/

namespace Sys2Proof.Machine

/-! ### xtime -/

/-- Doubling in 8 bits: the bit shifted out decides whether the polynomial is added (R91). -/
theorem xtime_eq (a : Byte) : xtime a = (a <<< 1) ^^^ (if a.getLsbD 7 then 0x1b#8 else 0x00#8) := by
  have hbit : (a.setWidth 9 <<< 1).getLsbD 8 = a.getLsbD 7 := by simp
  have hshift : (a.setWidth 9 <<< 1).setWidth 8 = a <<< 1 := by ext; simp
  simp only [xtime, hbit]
  split
  · rw [BitVec.setWidth_xor, hshift]
    rfl
  · rw [hshift, BitVec.xor_zero]

theorem xtime_xor (a b : Byte) : xtime (a ^^^ b) = xtime a ^^^ xtime b := by
  rw [xtime_eq, xtime_eq a, xtime_eq b, BitVec.shiftLeft_xor_distrib, BitVec.getLsbD_xor]
  have hreduce : (if a.getLsbD 7 ^^ b.getLsbD 7 then 0x1b#8 else 0x00#8) =
      (if a.getLsbD 7 then 0x1b#8 else 0x00#8) ^^^ (if b.getLsbD 7 then 0x1b#8 else 0x00#8) := by
    cases a.getLsbD 7 <;> cases b.getLsbD 7 <;> rfl
  rw [hreduce]
  ac_rfl

theorem eq_zero_of_xtime_eq_zero {a : Byte} (h : xtime a = 0#8) : a = 0#8 := by
  revert a
  decide +kernel

theorem xtime_injective : Function.Injective xtime := by
  intro a b h
  have hzero : xtime (a ^^^ b) = 0#8 := by rw [xtime_xor, h, BitVec.xor_self]
  exact BitVec.xor_eq_zero_iff.mp (eq_zero_of_xtime_eq_zero hzero)

/-- Settles O54: `xtime` respects XOR and takes only 0 to 0, so it is injective on a finite type. -/
theorem xtimeInItsEquivalentForm : Obligations.XtimeInItsEquivalentForm := by
  unfold Obligations.XtimeInItsEquivalentForm
  exact ⟨xtime_eq, rfl, rfl, rfl, Finite.injective_iff_bijective.mp xtime_injective⟩

/-! ### The field product -/

/-- One summand of R92's form of the product: `xtime` applied `i` times to `a`, when bit `i` of `c` is set. -/
def addDoubling (a c r : Byte) (i : Nat) : Byte := if c.getLsbD i then r ^^^ xtime^[i] a else r

/-- The loop of R92 after `n` turns: the sum so far, and `a` doubled `n` times. -/
theorem foldl_gmulTurn_range (a c : Byte) (n : Nat) :
    (List.range n).foldl (gmulTurn c) (0#8, a) = ((List.range n).foldl (addDoubling a c) 0#8, xtime^[n] a) := by
  induction n with
  | zero => rfl
  | succ n ih =>
    rw [List.range_succ, List.foldl_append, List.foldl_append, ih, Function.iterate_succ_apply']
    rfl

theorem gmul_eq_foldl_addDoubling (a c : Byte) : gmul a c = (List.range 8).foldl (addDoubling a c) 0#8 :=
  congrArg Prod.fst (foldl_gmulTurn_range a c 8)

/-- XOR of two states of the loop of R92. -/
def xorPair (p q : Byte × Byte) : Byte × Byte := (p.1 ^^^ q.1, p.2 ^^^ q.2)

theorem gmulTurn_xorPair (c : Byte) (p q : Byte × Byte) (i : Nat) :
    xorPair (gmulTurn c p i) (gmulTurn c q i) = gmulTurn c (xorPair p q) i := by
  refine Prod.ext ?_ (xtime_xor p.2 q.2).symm
  simp only [xorPair, gmulTurn]
  split
  · ac_rfl
  · rfl

theorem gmul_xor_left (a b c : Byte) : gmul (a ^^^ b) c = gmul a c ^^^ gmul b c := by
  have hstart : xorPair (0#8, a) (0#8, b) = (0#8, a ^^^ b) := by simp [xorPair]
  have hloop := List.foldl_hom₂ [0, 1, 2, 3, 4, 5, 6, 7] xorPair _ _ _ (0#8, a) (0#8, b) (gmulTurn_xorPair c)
  rw [hstart] at hloop
  exact congrArg Prod.fst hloop

/-- What respects XOR and commutes with doubling commutes with multiplying by `c`. -/
theorem map_gmul {f : Byte → Byte} (hxor : ∀ a b, f (a ^^^ b) = f a ^^^ f b) (hxtime : ∀ a, f (xtime a) = xtime (f a))
    (a c : Byte) : f (gmul a c) = gmul (f a) c := by
  have hzero : f 0#8 = 0#8 := by simpa using hxor 0#8 0#8
  have hturn : ∀ p i, gmulTurn c (Prod.map f f p) i = Prod.map f f (gmulTurn c p i) := by
    intro p i
    refine Prod.ext ?_ (hxtime p.2).symm
    simp only [gmulTurn, Prod.map_fst, Prod.map_snd]
    split
    · exact (hxor p.1 p.2).symm
    · rfl
  have hloop := List.foldl_hom (Prod.map f f) (l := [0, 1, 2, 3, 4, 5, 6, 7]) (init := (0#8, a)) hturn
  rw [Prod.map_apply, hzero] at hloop
  exact (congrArg Prod.fst hloop).symm

theorem gmul_xtime_left (a c : Byte) : gmul (xtime a) c = xtime (gmul a c) :=
  (map_gmul xtime_xor (fun _ => rfl) a c).symm

@[simp] theorem one_gmul (c : Byte) : gmul 1#8 c = c := by
  revert c
  decide +kernel

/-- Two factors behind a first one change places, since each multiplies in a way the other commutes with. -/
theorem gmul_right_comm (a b c : Byte) : gmul (gmul a b) c = gmul (gmul a c) b :=
  map_gmul (f := (gmul · c)) (fun x y => gmul_xor_left x y c) (fun x => gmul_xtime_left x c) a b

theorem gmul_comm (a c : Byte) : gmul a c = gmul c a := by
  calc gmul a c = gmul (gmul 1#8 a) c := by rw [one_gmul]
    _ = gmul (gmul 1#8 c) a := gmul_right_comm 1#8 a c
    _ = gmul c a := by rw [one_gmul]

@[simp] theorem gmul_one (a : Byte) : gmul a 1#8 = a := by rw [gmul_comm, one_gmul]

@[simp] theorem zero_gmul (c : Byte) : gmul 0#8 c = 0#8 := by simpa using gmul_xor_left 0#8 0#8 c

@[simp] theorem gmul_zero (a : Byte) : gmul a 0#8 = 0#8 := by rw [gmul_comm, zero_gmul]

theorem gmul_xor_right (a b c : Byte) : gmul a (b ^^^ c) = gmul a b ^^^ gmul a c := by
  rw [gmul_comm, gmul_xor_left, gmul_comm b, gmul_comm c]

theorem gmul_xtime_right (a c : Byte) : gmul a (xtime c) = xtime (gmul a c) := by
  rw [gmul_comm, gmul_xtime_left, gmul_comm c]

theorem gmul_two (a : Byte) : gmul a 2#8 = xtime a := by
  rw [show 2#8 = xtime 1#8 from rfl, gmul_xtime_right, gmul_one]

theorem gmul_four (a : Byte) : gmul a 4#8 = xtime (xtime a) := by
  rw [show 4#8 = xtime 2#8 from rfl, gmul_xtime_right, gmul_two]

theorem gmul_eight (a : Byte) : gmul a 8#8 = xtime (xtime (xtime a)) := by
  rw [show 8#8 = xtime 4#8 from rfl, gmul_xtime_right, gmul_four]

theorem gmul_three (a : Byte) : gmul a 3#8 = xtime a ^^^ a := by
  rw [show 3#8 = 2#8 ^^^ 1#8 from rfl, gmul_xor_right, gmul_two, gmul_one]

theorem gmul_nine (a : Byte) : gmul a 9#8 = xtime (xtime (xtime a)) ^^^ a := by
  rw [show 9#8 = 8#8 ^^^ 1#8 from rfl, gmul_xor_right, gmul_eight, gmul_one]

theorem gmul_eleven (a : Byte) : gmul a 11#8 = xtime (xtime (xtime a)) ^^^ xtime a ^^^ a := by
  rw [show 11#8 = 9#8 ^^^ 2#8 from rfl, gmul_xor_right, gmul_nine, gmul_two]
  ac_rfl

theorem gmul_thirteen (a : Byte) : gmul a 13#8 = xtime (xtime (xtime a)) ^^^ xtime (xtime a) ^^^ a := by
  rw [show 13#8 = 9#8 ^^^ 4#8 from rfl, gmul_xor_right, gmul_nine, gmul_four]
  ac_rfl

theorem gmul_fourteen (a : Byte) : gmul a 14#8 = xtime (xtime (xtime a)) ^^^ xtime (xtime a) ^^^ xtime a := by
  rw [show 14#8 = 8#8 ^^^ 4#8 ^^^ 2#8 from rfl, gmul_xor_right, gmul_xor_right, gmul_eight, gmul_four, gmul_two]

/-- Settles O55: the loop is the sum of the doublings, and the laws follow from its respecting XOR. -/
theorem fieldProductLaws : Obligations.FieldProductLaws := by
  unfold Obligations.FieldProductLaws
  refine ⟨gmul_eq_foldl_addDoubling, fun a => ?_, fun a => ⟨gmul_one a, gmul_zero a, zero_gmul a⟩, gmul_comm,
    gmul_xor_left⟩
  exact ⟨gmul_two a, gmul_three a, gmul_nine a, gmul_eleven a, gmul_thirteen a, gmul_fourteen a⟩

/-! ### The constant tables -/

/-- The six coefficient tables beside their coefficients (R34). -/
def coefficientTables : List (List Byte × Byte) :=
  [(mul2Table, 2#8), (mul3Table, 3#8), (mul9Table, 9#8), (mul11Table, 11#8), (mul13Table, 13#8), (mul14Table, 14#8)]

/-- The products of all bytes with `c`, in the order of the bytes. -/
def productTable (c : Byte) : List Byte := (List.range 256).map fun n => gmul (BitVec.ofNat 8 n) c

theorem tableRead_productTable (c a : Byte) : tableRead (productTable c) a = gmul a c := by
  simp [tableRead, productTable, a.isLt]

/-- The one fact about the entries of the coefficient tables (R93). -/
theorem eq_productTable_of_mem : ∀ p ∈ coefficientTables, p.1 = productTable p.2 := by decide +kernel

theorem tableRead_of_mem_coefficientTables {t : List Byte} {c : Byte} (h : (t, c) ∈ coefficientTables) (a : Byte) :
    tableRead t a = gmul a c := by
  have htable : t = productTable c := eq_productTable_of_mem (t, c) h
  rw [htable, tableRead_productTable]

theorem mul2_eq_gmul (a : Byte) : mul2 a = gmul a 2#8 :=
  tableRead_of_mem_coefficientTables (by simp [coefficientTables]) a

theorem mul3_eq_gmul (a : Byte) : mul3 a = gmul a 3#8 :=
  tableRead_of_mem_coefficientTables (by simp [coefficientTables]) a

theorem mul9_eq_gmul (a : Byte) : mul9 a = gmul a 9#8 :=
  tableRead_of_mem_coefficientTables (by simp [coefficientTables]) a

theorem mul11_eq_gmul (a : Byte) : mul11 a = gmul a 11#8 :=
  tableRead_of_mem_coefficientTables (by simp [coefficientTables]) a

theorem mul13_eq_gmul (a : Byte) : mul13 a = gmul a 13#8 :=
  tableRead_of_mem_coefficientTables (by simp [coefficientTables]) a

theorem mul14_eq_gmul (a : Byte) : mul14 a = gmul a 14#8 :=
  tableRead_of_mem_coefficientTables (by simp [coefficientTables]) a

@[simp] theorem isub_sub (b : Byte) : isub (sub b) = b := by
  revert b
  decide +kernel

/-- On a finite type a left inverse is a right inverse, so this needs no second look at the tables (R94). -/
@[simp] theorem sub_isub (b : Byte) : sub (isub b) = b := by
  have hleft : Function.LeftInverse isub sub := isub_sub
  exact hleft.rightInverse_of_surjective (Finite.surjective_of_injective hleft.injective) b

theorem sub_ne_self (b : Byte) : sub b ≠ b := by
  revert b
  decide +kernel

theorem sub_ne_opposite (b : Byte) : sub b ≠ b ^^^ 0xff#8 := by
  revert b
  decide +kernel

theorem rcon_succ : ∀ i j : Fin 11, 1 ≤ i.val → j.val = i.val + 1 → rcon j = xtime (rcon i) := by decide +kernel

/-- Settles O56: the coefficient tables hold the products, the substitutions are inverse, the round constants double. -/
theorem constantTablesObeyTheirLaws : Obligations.ConstantTablesObeyTheirLaws := by
  unfold Obligations.ConstantTablesObeyTheirLaws
  refine ⟨fun a => ?products, ⟨rfl, rfl, rfl, rfl, rfl, rfl⟩, ⟨rfl, rfl⟩, fun b => ?substitution, rfl, rfl, rcon_succ⟩
  case products =>
    exact ⟨mul2_eq_gmul a, mul3_eq_gmul a, mul9_eq_gmul a, mul11_eq_gmul a, mul13_eq_gmul a, mul14_eq_gmul a⟩
  case substitution => exact ⟨isub_sub b, sub_isub b, sub_ne_self b, sub_ne_opposite b⟩

end Sys2Proof.Machine
end

section
/-! SUPPORT. The two micro-operations of the key schedule (R111, R112), its flat form (R114), and the flat-index forms
of `SR` and `ISR` (R133, R151). -/

namespace Sys2Proof.Machine

variable {s t : State}

/-! ### Completion of a micro-operation -/

/-- A micro-operation that makes a round key writes it and advances `UPC`, exactly where `UPC` can be advanced (R23). -/
theorem exec_next_iff_of_newRk {i : Instr} {n : Fin 11} {b : Block} (h : newRk i s = some (n, b)) :
    exec i s = .next t ↔ s.upc ≠ 127#7 ∧ t = advanced (setRk s n b) := by
  rw [exec_of_newRk h, advance_next_iff, setRk_upc]

/-- A micro-operation that makes a new State writes it and advances `UPC`, exactly where `UPC` can be advanced (R23). -/
theorem exec_next_iff_of_newSt {i : Instr} {b : Block} (h : newSt i s = some b) :
    exec i s = .next t ↔ s.upc ≠ 127#7 ∧ t = advanced (setSt s b) := by
  rw [exec_of_newSt h, advance_next_iff, setSt_upc]

theorem sameButRk_advanced_setRk (n : Fin 11) (b : Block) : SameButRk n s (advanced (setRk s n b)) :=
  ⟨⟨rfl, rfl⟩, rfl, rfl, rfl, fun m hm => setRk_rk_other s n m b hm, rfl, rfl, rfl, rfl⟩

/-- The whole effect of a micro-operation that makes a round key: the round key, `UPC + 1`, and the frame. -/
theorem exists_next_of_newRk {i : Instr} {n : Fin 11} {b : Block} (h : newRk i s = some (n, b)) (hu : s.upc ≠ 127#7) :
    ∃ t, exec i s = .next t ∧ t.rk[n] = b ∧ t.upc = s.upc + 1#7 ∧ SameButRk n s t :=
  ⟨_, (exec_next_iff_of_newRk h).mpr ⟨hu, rfl⟩, setRk_rk_same s n b, rfl, sameButRk_advanced_setRk n b⟩

/-! ### `KLD` -/

/-- Settles O17: `KLD` makes `K` the round key of index 0. -/
theorem kldCopiesTheKey : Obligations.KldCopiesTheKey := by
  unfold Obligations.KldCopiesTheKey
  refine ⟨rfl, fun s hu => ?_⟩
  obtain ⟨t, hexec, hrk, hupc, hframe⟩ := exists_next_of_newRk (i := .kld) (s := s) rfl hu
  exact ⟨t, hexec, fun i => congrArg (Block.get · i) hrk, hupc, hframe⟩

/-! ### The word of `KXR n` -/

theorem kxrWord_eq_uopWord (n : BitVec 4) : 0x20#8 + n.setWidth 8 = uopWord 0x2#4 n := by
  revert n
  decide

/-- Word 0x20 + n decodes exactly for n in 1..10 (R76, R77). -/
theorem decode_kxrWord (n : BitVec 4) :
    decode (.uop (0x20#8 + n.setWidth 8)) =
      if 1 ≤ n.toNat ∧ n.toNat ≤ 10 then .ok (.kxr n) else .error (.kxrIndex (uopWord 0x2#4 n)) := by
  rw [kxrWord_eq_uopWord, decode, decodeUop_of_op_kxr (uopOp_uopWord 0x2#4 n), uopN_uopWord]

/-! ### One group of the key schedule -/

theorem get_wxor (u v : Word) (k : Fin 4) : (wxor u v).get k = u.get k ^^^ v.get k := by
  fin_cases k <;> rfl

theorem wxor_comm (u v : Word) : wxor u v = wxor v u := by
  apply Word.ext_get
  intro k
  rw [get_wxor, get_wxor, BitVec.xor_comm]

theorem nextRoundKey_word_zero (p : Block) (n : Fin 11) :
    (nextRoundKey p n).word 0 = wxor (g (p.word 3) n) (p.word 0) := rfl

/-- Each later word is the new word before it XOR the old word at its place (R112). -/
theorem nextRoundKey_word_succ (p : Block) (n : Fin 11) (j : Fin 3) :
    (nextRoundKey p n).word j.succ = wxor ((nextRoundKey p n).word j.castSucc) (p.word j.succ) := by
  fin_cases j <;> rfl

/-- `KXR n` makes the next round key from the one before it (R112). -/
theorem newRk_kxr {n : BitVec 4} {src dst : Fin 11} (hdst : dst.val = n.toNat) (hsrc : src.val + 1 = n.toNat) :
    newRk (.kxr n) s = some (dst, nextRoundKey s.rk[src] dst) := by
  simp [newRk, kxrOperand_eq_some_iff.mpr ⟨hdst, hsrc.trans hdst.symm⟩]

/-- Settles O18: `KXR n` writes the next group into `RK[n]`, whose words are those of R112. -/
theorem kxrDerivesTheNextRoundKey : Obligations.KxrDerivesTheNextRoundKey := by
  unfold Obligations.KxrDerivesTheNextRoundKey
  refine ⟨fun s n src dst hdst hsrc => ⟨?decodes, fun hu => ?executes⟩, rfl, rfl, fun n hn => ?illegal⟩
  case decodes => exact (decode_kxrWord n).trans (if_pos (by omega))
  case executes =>
    obtain ⟨t, hexec, hrk, hupc, hframe⟩ := exists_next_of_newRk (newRk_kxr (s := s) hdst hsrc) hu
    refine ⟨t, hexec, ?_⟩
    rw [hrk]
    exact ⟨nextRoundKey_word_zero _ dst, nextRoundKey_word_succ _ dst 0, nextRoundKey_word_succ _ dst 1,
      nextRoundKey_word_succ _ dst 2, hframe.rk src (by omega), hupc, hframe⟩
  case illegal => exact ⟨_, (decode_kxrWord n).trans (if_neg (by omega))⟩

/-! ### The byte form of `KXR n` and the flat-index forms of `SR` and `ISR` -/

/-- The byte form of word 0: the old word, the substituted and rotated last word, and the round constant in byte 0. -/
theorem nextRoundKey_get_word_zero (p : Block) (n : Fin 11) :
    (nextRoundKey p n).get 0 = p.get 0 ^^^ sub (p.get 13) ^^^ rcon n ∧
    (nextRoundKey p n).get 1 = p.get 1 ^^^ sub (p.get 14) ∧
    (nextRoundKey p n).get 2 = p.get 2 ^^^ sub (p.get 15) ∧
    (nextRoundKey p n).get 3 = p.get 3 ^^^ sub (p.get 12) := by
  refine ⟨?_, BitVec.xor_comm _ _, BitVec.xor_comm _ _, BitVec.xor_comm _ _⟩
  have h : (nextRoundKey p n).get 0 = sub (p.get 13) ^^^ rcon n ^^^ p.get 0 := rfl
  rw [h]
  ac_rfl

/-- A byte of a buffer is that of its row in the word of its column (R11, R22). -/
theorem get_eq_word_get (b : Block) (i : Fin 16) : b.get i = (b.word (colOf i)).get (rowOf i) := rfl

/-- The byte form of the later words: four places on is one word on. -/
theorem nextRoundKey_get_add_four (p : Block) (n : Fin 11) {i j : Fin 16} (h : i.val = j.val + 4) :
    (nextRoundKey p n).get i = (nextRoundKey p n).get j ^^^ p.get i := by
  have hcol : colOf i = Fin.succ ⟨j.val / 4, by omega⟩ := Fin.ext (show i.val / 4 = j.val / 4 + 1 by omega)
  have hcol' : colOf j = Fin.castSucc ⟨j.val / 4, by omega⟩ := rfl
  have hrow : rowOf i = rowOf j := Fin.ext (show i.val % 4 = j.val % 4 by omega)
  rw [get_eq_word_get _ i, get_eq_word_get _ j, get_eq_word_get p i, hcol, hcol', hrow, nextRoundKey_word_succ, get_wxor]

theorem get_shiftRows (b : Block) {i j : Fin 16} (h : j.val = (i.val + 4 * (i.val % 4)) % 16) :
    (shiftRows b).get i = b.get j := by
  have hj : idx (rowOf i) (colOf i + rowOf i) = j :=
    Fin.ext (show i.val % 4 + 4 * ((i.val / 4 + i.val % 4) % 4) = j.val by omega)
  rw [shiftRows, ofCells, Block.get_ofFn, cell, hj]

theorem get_invShiftRows (b : Block) {i j : Fin 16} (h : j.val = (i.val + 16 - 4 * (i.val % 4)) % 16) :
    (invShiftRows b).get i = b.get j := by
  have hj : idx (rowOf i) (colOf i - rowOf i) = j :=
    Fin.ext (show i.val % 4 + 4 * ((4 - i.val % 4 + i.val / 4) % 4) = j.val by omega)
  rw [invShiftRows, ofCells, Block.get_ofFn, cell, hj]

/-- Settles O28: each form is that of the pure function which the micro-operation writes. -/
theorem byteAndFlatIndexForms : Obligations.ByteAndFlatIndexForms := by
  unfold Obligations.ByteAndFlatIndexForms
  refine ⟨fun s t n src dst hdst hsrc h => ?kxr, fun s t h i j hj => ?sr, fun s t h i j hj => ?isr⟩
  case kxr =>
    obtain ⟨-, rfl⟩ := (exec_next_iff_of_newRk (newRk_kxr hdst hsrc)).mp h
    obtain ⟨h0, h1, h2, h3⟩ := nextRoundKey_get_word_zero s.rk[src] dst
    rw [advanced_rk, setRk_rk_same]
    exact ⟨h0, h1, h2, h3, fun i j hij => nextRoundKey_get_add_four _ dst hij⟩
  case sr =>
    obtain ⟨-, rfl⟩ := (exec_next_iff_of_newSt rfl).mp h
    exact get_shiftRows s.st hj
  case isr =>
    obtain ⟨-, rfl⟩ := (exec_next_iff_of_newSt rfl).mp h
    exact get_invShiftRows s.st hj

/-! ### The flat form of the key schedule -/

/-- Word `4n + j` of the schedule is word `j` of round key `n` (R29, R114). -/
theorem flatWord_expand (key : Block) {i n : Nat} {j : Fin 4} (hi : i = 4 * n + j.val) (hn : n < 11) :
    flatWord (expand key) i = (roundKey key n).word j := by
  have hgroup : (Fin.ofNat 11 (i / 4)).val = n := show i / 4 % 11 = n by omega
  have hplace : Fin.ofNat 4 i = j := Fin.ext (show i % 4 = j.val by omega)
  rw [flatWord, expand_getElem, hgroup, hplace]

/-- Settles O35: the two cases are the first and the later words of a group (R112). -/
theorem expandAsFlatWords : Obligations.ExpandAsFlatWords := by
  unfold Obligations.ExpandAsFlatWords
  refine fun key => ⟨fun j => ?key, fun i hi hle hmod => ?first, fun i hi hle hmod => ?later⟩
  case key => exact flatWord_expand key (n := 0) (by omega) (by omega)
  case first =>
    obtain ⟨n, rfl⟩ : ∃ n, i = 4 * (n + 1) := ⟨i / 4 - 1, by omega⟩
    have hnew : flatWord (expand key) (4 * (n + 1)) = (roundKey key (n + 1)).word 0 :=
      flatWord_expand key rfl (by omega)
    have hold : flatWord (expand key) (4 * (n + 1) - 4) = (roundKey key n).word 0 := flatWord_expand key rfl (by omega)
    have hlast : flatWord (expand key) (4 * (n + 1) - 1) = (roundKey key n).word 3 := flatWord_expand key rfl (by omega)
    rw [hnew, hold, hlast, Nat.mul_div_cancel_left _ (by decide), wxor_comm]
    exact nextRoundKey_word_zero _ _
  case later =>
    obtain ⟨n, j, rfl⟩ : ∃ (n : Nat) (j : Fin 3), i = 4 * (n + 1) + j.succ.val :=
      ⟨i / 4 - 1, ⟨i % 4 - 1, by omega⟩, show i = 4 * (i / 4 - 1 + 1) + (i % 4 - 1 + 1) by omega⟩
    have hnew : flatWord (expand key) (4 * (n + 1) + j.succ.val) = (roundKey key (n + 1)).word j.succ :=
      flatWord_expand key rfl (by omega)
    have hold : flatWord (expand key) (4 * (n + 1) + j.succ.val - 4) = (roundKey key n).word j.succ :=
      flatWord_expand key (by omega) (by omega)
    have hbefore : flatWord (expand key) (4 * (n + 1) + j.succ.val - 1) = (roundKey key (n + 1)).word j.castSucc :=
      flatWord_expand key rfl (by omega)
    rw [hnew, hold, hbefore, wxor_comm]
    exact nextRoundKey_word_succ _ _ j

end Sys2Proof.Machine
end

section
/-! SUPPORT. The round transforms as pure functions, each by its own rule (R131 to R134, R150 to R152): how it acts on
the cells of the State, that it respects XOR or acts on every byte alone, and that the inverse pairs undo each other. -/

namespace Sys2Proof.Machine

/-! ### AddRoundKey -/

@[simp] theorem cell_addRoundKey (s k : Block) (r c : Fin 4) : cell (addRoundKey s k) r c = cell s r c ^^^ cell k r c :=
  cell_xorBlock s k r c

/-- AddRoundKey is its own inverse (R131). -/
@[simp] theorem addRoundKey_addRoundKey (s k : Block) : addRoundKey (addRoundKey s k) k = s := by
  apply Block.ext_get
  intro i
  simp

theorem addRoundKey_eq_self {s k : Block} (hk : ∀ i, k.get i = 0#8) : addRoundKey s k = s := by
  apply Block.ext_get
  intro i
  simp [hk]

theorem addRoundKey_right_injective (s : Block) : Function.Injective (addRoundKey s) := by
  intro k k' h
  apply Block.ext_get
  intro i
  have hi : (addRoundKey s k).get i = (addRoundKey s k').get i := congrArg (Block.get · i) h
  simpa using hi

/-- A transform that respects XOR commutes with AddRoundKey exactly for the round keys it leaves unchanged (R135). -/
theorem commutes_addRoundKey_iff {f : Block → Block} (hf : ∀ s k, f (addRoundKey s k) = addRoundKey (f s) (f k))
    (k : Block) : (∀ s, f (addRoundKey s k) = addRoundKey (f s) k) ↔ f k = k := by
  constructor
  · intro h
    exact addRoundKey_right_injective (f k) ((hf k k).symm.trans (h k))
  · intro hk s
    rw [hf, hk]

/-! ### ShiftRows and InvShiftRows -/

@[simp] theorem cell_shiftRows (s : Block) (r c : Fin 4) : cell (shiftRows s) r c = cell s r (c + r) :=
  cell_ofCells _ r c

@[simp] theorem cell_invShiftRows (s : Block) (r c : Fin 4) : cell (invShiftRows s) r c = cell s r (c - r) :=
  cell_ofCells _ r c

theorem invShiftRows_shiftRows (s : Block) : invShiftRows (shiftRows s) = s := by
  apply ext_cell
  intro r c
  have hback : c - r + r = c := by omega
  simp [hback]

/-- A row comes back to its place after four rotations (R133). -/
theorem shiftRows_four_times (s : Block) : shiftRows (shiftRows (shiftRows (shiftRows s))) = s := by
  apply ext_cell
  intro r c
  have hround : c + r + r + r + r = c := by omega
  simp [hround]

theorem shiftRows_of_constant_rows {s : Block} (h : ∀ r c, cell s r c = cell s r 0) : shiftRows s = s := by
  apply ext_cell
  intro r c
  rw [cell_shiftRows, h r (c + r), h r c]

theorem shiftRows_addRoundKey (s k : Block) : shiftRows (addRoundKey s k) = addRoundKey (shiftRows s) (shiftRows k) := by
  apply ext_cell
  intro r c
  simp

theorem invShiftRows_addRoundKey (s k : Block) :
    invShiftRows (addRoundKey s k) = addRoundKey (invShiftRows s) (invShiftRows k) := by
  apply ext_cell
  intro r c
  simp

/-! ### SubBytes and InvSubBytes -/

theorem invSubBytes_subBytes (s : Block) : invSubBytes (subBytes s) = s := by
  apply Block.ext_get
  intro i
  simp [invSubBytes, subBytes]

/-- What acts on every byte alone commutes with the moving of bytes (R135). -/
theorem mapBytes_shiftRows (f : Byte → Byte) (s : Block) : mapBytes f (shiftRows s) = shiftRows (mapBytes f s) := by
  apply ext_cell
  intro r c
  simp

theorem mapBytes_invShiftRows (f : Byte → Byte) (s : Block) :
    mapBytes f (invShiftRows s) = invShiftRows (mapBytes f s) := by
  apply ext_cell
  intro r c
  simp

/-! ### MixColumns and InvMixColumns -/

theorem cell_mixColumns (s : Block) (r c : Fin 4) : cell (mixColumns s) r c = columnProduct forwardMatrix s r c := by
  rw [mixColumns, ofColumns, cell_ofCells]
  fin_cases r <;>
    simp [mixColumn, Word.get, column, Word.ofFn, columnProduct, forwardMatrix, mul2_eq_gmul, mul3_eq_gmul]

theorem cell_invMixColumns (s : Block) (r c : Fin 4) :
    cell (invMixColumns s) r c = columnProduct inverseMatrix s r c := by
  rw [invMixColumns, ofColumns, cell_ofCells]
  fin_cases r <;>
    simp [invMixColumn, Word.get, column, Word.ofFn, columnProduct, inverseMatrix, mul9_eq_gmul, mul11_eq_gmul,
      mul13_eq_gmul, mul14_eq_gmul]

theorem columnProduct_xorBlock (m : Fin 4 → Fin 4 → Byte) (a b : Block) (r c : Fin 4) :
    columnProduct m (xorBlock a b) r c = columnProduct m a r c ^^^ columnProduct m b r c := by
  simp only [columnProduct, cell_xorBlock, gmul_xor_left]
  ac_rfl

/-- MixColumns is linear (R134). -/
theorem mixColumns_xorBlock (a b : Block) : mixColumns (xorBlock a b) = xorBlock (mixColumns a) (mixColumns b) := by
  apply ext_cell
  intro r c
  simp only [cell_xorBlock, cell_mixColumns, columnProduct_xorBlock]

/-- A matrix whose rows each sum to 1 leaves a column of equal bytes unchanged. -/
theorem columnProduct_of_equal_column {m : Fin 4 → Fin 4 → Byte} (hrow : ∀ r, m r 0 ^^^ m r 1 ^^^ m r 2 ^^^ m r 3 = 1#8)
    {s : Block} {c : Fin 4} {x : Byte} (hx : ∀ r, cell s r c = x) (r : Fin 4) : columnProduct m s r c = x := by
  calc columnProduct m s r c = gmul x (m r 0 ^^^ m r 1 ^^^ m r 2 ^^^ m r 3) := by
        simp only [columnProduct, hx, gmul_xor_right]
    _ = x := by rw [hrow, gmul_one]

theorem gmul_assoc (a b c : Byte) : gmul (gmul a b) c = gmul a (gmul b c) := by
  rw [gmul_comm a b, gmul_right_comm, gmul_comm]

/-- Multiplying the columns by `n` and then by `m` is multiplying them by the matrix product of `m` and `n`, whose
columns are those of `n` multiplied by `m`. -/
theorem columnProduct_columnProduct (m n : Fin 4 → Fin 4 → Byte) (s : Block) (r c : Fin 4) :
    columnProduct m (ofCells (columnProduct n s)) r c = columnProduct (columnProduct m (ofCells n)) s r c := by
  simp only [columnProduct, cell_ofCells, gmul_xor_left, gmul_xor_right, gmul_assoc]
  ac_rfl

/-- The unit matrix over GF(2^8): row r, entry j. -/
def unitMatrix (r j : Fin 4) : Byte := if r = j then 1#8 else 0#8

theorem columnProduct_unitMatrix (s : Block) (r c : Fin 4) : columnProduct unitMatrix s r c = cell s r c := by
  fin_cases r <;> simp [columnProduct, unitMatrix]

/-- The one fact about the two printed matrices: their product is the unit matrix. -/
theorem inverseMatrix_mul_forwardMatrix : columnProduct inverseMatrix (ofCells forwardMatrix) = unitMatrix := by
  decide +kernel

theorem mixColumns_eq_ofCells (s : Block) : mixColumns s = ofCells (columnProduct forwardMatrix s) := by
  apply ext_cell
  intro r c
  rw [cell_mixColumns, cell_ofCells]

theorem invMixColumns_mixColumns (s : Block) : invMixColumns (mixColumns s) = s := by
  apply ext_cell
  intro r c
  rw [cell_invMixColumns, mixColumns_eq_ofCells, columnProduct_columnProduct, inverseMatrix_mul_forwardMatrix,
    columnProduct_unitMatrix]

end Sys2Proof.Machine
end

section
/-! SUPPORT. The micro-operations that write `ST`, on the machine: what each leaves there and what it leaves unchanged
(R130 to R134), and which of the transforms commute (R135). -/

namespace Sys2Proof.Machine

variable {s t : State}

/-! ### The effect and the frame -/

theorem sameButSt_advanced_setSt (b : Block) : SameButSt s (advanced (setSt s b)) :=
  ⟨⟨rfl, rfl⟩, rfl, rfl, rfl, rfl, rfl, rfl, rfl⟩

/-- The whole effect of a micro-operation that makes a new State: `ST`, `UPC + 1`, and the frame. -/
theorem exists_next_of_newSt {i : Instr} {b : Block} (h : newSt i s = some b) (hu : s.upc ≠ 127#7) :
    ∃ t, exec i s = .next t ∧ t.st = b ∧ t.upc = s.upc + 1#7 ∧ SameButSt s t :=
  ⟨_, (exec_next_iff_of_newSt h).mpr ⟨hu, rfl⟩, rfl, rfl, sameButSt_advanced_setSt b⟩

theorem sameButSt_of_newSt {i : Instr} {b : Block} (h : newSt i s = some b) (hexec : exec i s = .next t) :
    SameButSt s t := by
  obtain ⟨-, rfl⟩ := (exec_next_iff_of_newSt h).mp hexec
  exact sameButSt_advanced_setSt b

theorem newSt_ark {n : BitVec 4} {r : Fin 11} (h : r.val = n.toNat) :
    newSt (.ark n) s = some (addRoundKey s.st s.rk[r]) := by
  simp [newSt, arkOperand_eq_some_iff.mpr h]

/-- `ARK n` gives a next state only on its operand range (R76). -/
theorem arkOperand_of_exec {n : BitVec 4} (h : exec (.ark n) s = .next t) : ∃ r : Fin 11, r.val = n.toNat := by
  cases hn : arkOperand n with
  | none => simp [exec, execArk, hn] at h
  | some r => exact ⟨r, arkOperand_eq_some_iff.mp hn⟩

/-- Settles O30: each of them makes a new State, `ARK n` when its index is in range. -/
theorem transformFrame : Obligations.TransformFrame := by
  unfold Obligations.TransformFrame
  rintro i s t (rfl | ⟨n, rfl⟩ | rfl | rfl | rfl | rfl | rfl | rfl) hexec
  case inr.inl =>
    obtain ⟨r, hr⟩ := arkOperand_of_exec hexec
    exact sameButSt_of_newSt (newSt_ark hr) hexec
  all_goals exact sameButSt_of_newSt rfl hexec

/-! ### `ARK n` -/

theorem arkWord_eq_uopWord (n : BitVec 4) : 0x40#8 + n.setWidth 8 = uopWord 0x4#4 n := by
  revert n
  decide

/-- Word 0x40 + n decodes exactly for n in 0..10 (R76, R77). -/
theorem decode_arkWord (n : BitVec 4) :
    decode (.uop (0x40#8 + n.setWidth 8)) =
      if n.toNat ≤ 10 then .ok (.ark n) else .error (.arkIndex (uopWord 0x4#4 n)) := by
  rw [arkWord_eq_uopWord, decode, decodeUop_of_op_ark (uopOp_uopWord 0x4#4 n), uopN_uopWord]

/-- Settles O21: `ARK n` writes AddRoundKey of `ST` and `RK[n]`, which is XOR byte by byte. -/
theorem arkXorsTheRoundKey : Obligations.ArkXorsTheRoundKey := by
  unfold Obligations.ArkXorsTheRoundKey
  refine ⟨fun s n r hr => ⟨?decodes, fun hu => ?executes⟩, addRoundKey_addRoundKey, fun n hn => ?illegal⟩
  case decodes => exact (decode_arkWord n).trans (if_pos (by omega))
  case executes =>
    obtain ⟨t, hexec, hst, hupc, hframe⟩ := exists_next_of_newSt (newSt_ark (s := s) hr) hu
    refine ⟨t, hexec, ?_⟩
    rw [hst]
    refine ⟨get_addRoundKey _ _, hupc, hframe, addRoundKey_eq_self, fun heq i => ?_⟩
    rw [heq, get_addRoundKey, BitVec.xor_self]
  case illegal => exact ⟨_, (decode_arkWord n).trans (if_neg (by omega))⟩

/-! ### `SB` -/

/-- Settles O22: `SB` writes SubBytes of `ST`, and the facts about an entry of the table hold at every byte. -/
theorem sbSubstitutesEveryByte : Obligations.SbSubstitutesEveryByte := by
  unfold Obligations.SbSubstitutesEveryByte
  refine ⟨rfl, fun s hu => ?_⟩
  obtain ⟨t, hexec, hst, hupc, hframe⟩ := exists_next_of_newSt (i := .sb) (s := s) rfl hu
  have hget : ∀ i, t.st.get i = sub (s.st.get i) := fun i => by rw [hst, subBytes, get_mapBytes]
  refine ⟨t, hexec, hget, fun i => ?_, ?_, hupc, hframe⟩
  · rw [hget]
    exact sub_ne_self _
  · rw [hst, invSubBytes_subBytes]

/-! ### `SR` -/

/-- Settles O23: `SR` writes ShiftRows of `ST`, whose cells are those of R133. -/
theorem srRotatesTheRowsLeft : Obligations.SrRotatesTheRowsLeft := by
  unfold Obligations.SrRotatesTheRowsLeft
  refine ⟨rfl, fun s hu => ?_, shiftRows_four_times, fun s => shiftRows_of_constant_rows⟩
  obtain ⟨t, hexec, hst, hupc, hframe⟩ := exists_next_of_newSt (i := .sr) (s := s) rfl hu
  have hcell : ∀ r c, cell t.st r c = cell s.st r (c + r) := fun r c => by rw [hst, cell_shiftRows]
  refine ⟨t, hexec, fun r c c' hc => ?_, fun c => ?_, ?_, hupc, hframe⟩
  · obtain rfl : c' = c + r := Fin.ext hc
    exact hcell r c
  · simpa [cell] using hcell 0 c
  · rw [hst, invShiftRows_shiftRows]

/-! ### `MC` -/

/-- Settles O24: `MC` writes MixColumns of `ST`, the product with the printed matrix, which the inverse matrix undoes. -/
theorem mcMixesEveryColumn : Obligations.McMixesEveryColumn := by
  unfold Obligations.McMixesEveryColumn
  refine ⟨rfl, fun s hu => ?_, mixColumns_xorBlock⟩
  obtain ⟨t, hexec, hst, hupc, hframe⟩ := exists_next_of_newSt (i := .mc) (s := s) rfl hu
  have hcell : ∀ r c, cell t.st r c = columnProduct forwardMatrix s.st r c := fun r c => by rw [hst, cell_mixColumns]
  refine ⟨t, hexec, hcell, fun c x hx r => ?_, ?_, hupc, hframe⟩
  · rw [hcell]
    exact columnProduct_of_equal_column (by decide) hx r
  · rw [hst, invMixColumns_mixColumns]

/-! ### Which transforms commute -/

/-- Settles O34: a permutation of the bytes commutes with what acts on every byte alone and respects XOR; the other
four, tried on the zero State and the round key with only the last byte 1, do not commute with AddRoundKey. -/
theorem whichTransformsCommute : Obligations.WhichTransformsCommute := by
  unfold Obligations.WhichTransformsCommute
  refine ⟨mapBytes_shiftRows sub, mapBytes_invShiftRows isub, commutes_addRoundKey_iff shiftRows_addRoundKey,
    commutes_addRoundKey_iff invShiftRows_addRoundKey, ?sb, ?isb, ?mc, ?imc⟩
  all_goals exact ⟨blockOfField 0#128, blockOfField 1#128, by decide +kernel⟩

end Sys2Proof.Machine
end

section
/-! SUPPORT. The inverse transforms as pure functions (R150 to R152): that the forward transforms undo them, that
InvMixColumns is linear, and that row 2 moves alike in both directions. -/

namespace Sys2Proof.Machine

theorem subBytes_invSubBytes (s : Block) : subBytes (invSubBytes s) = s := by
  apply Block.ext_get
  intro i
  simp [subBytes, invSubBytes]

theorem shiftRows_invShiftRows (s : Block) : shiftRows (invShiftRows s) = s := by
  apply ext_cell
  intro r c
  have hback : c + r - r = c := by omega
  simp [hback]

/-- Two places to the right are two places to the left (R151). -/
theorem cell_shiftRows_two_eq_cell_invShiftRows (s : Block) (c : Fin 4) :
    cell (shiftRows s) 2 c = cell (invShiftRows s) 2 c := by
  have hturn : c + 2 = c - 2 := by omega
  rw [cell_shiftRows, cell_invShiftRows, hturn]

/-- InvMixColumns is linear (R152). -/
theorem invMixColumns_xorBlock (a b : Block) :
    invMixColumns (xorBlock a b) = xorBlock (invMixColumns a) (invMixColumns b) := by
  apply ext_cell
  intro r c
  simp only [cell_xorBlock, cell_invMixColumns, columnProduct_xorBlock]

/-- The product of the two printed matrices in the other order is the unit matrix too (R152). -/
theorem forwardMatrix_mul_inverseMatrix : columnProduct forwardMatrix (ofCells inverseMatrix) = unitMatrix := by
  decide +kernel

theorem invMixColumns_eq_ofCells (s : Block) : invMixColumns s = ofCells (columnProduct inverseMatrix s) := by
  apply ext_cell
  intro r c
  rw [cell_invMixColumns, cell_ofCells]

theorem mixColumns_invMixColumns (s : Block) : mixColumns (invMixColumns s) = s := by
  apply ext_cell
  intro r c
  rw [cell_mixColumns, invMixColumns_eq_ofCells, columnProduct_columnProduct, forwardMatrix_mul_inverseMatrix,
    columnProduct_unitMatrix]

end Sys2Proof.Machine
end

section
/-! SUPPORT. The inverse micro-operations on the machine (R150 to R152), and the inverse pairs run one after the other
(R153). -/

namespace Sys2Proof.Machine

variable {s t u : State}

/-! ### `ISB` -/

/-- Settles O25: `ISB` writes InvSubBytes of `ST`; the two tables are inverse to each other at every byte. -/
theorem isbSubstitutesEveryByteBack : Obligations.IsbSubstitutesEveryByteBack := by
  unfold Obligations.IsbSubstitutesEveryByteBack
  refine ⟨rfl, fun s hu => ?_, fun s => ⟨invSubBytes_subBytes s, subBytes_invSubBytes s⟩⟩
  obtain ⟨t, hexec, hst, hupc, hframe⟩ := exists_next_of_newSt (i := .isb) (s := s) rfl hu
  have hget : ∀ i, t.st.get i = isub (s.st.get i) := fun i => by rw [hst, invSubBytes, get_mapBytes]
  exact ⟨t, hexec, hget, hupc, hframe⟩

/-! ### `ISR` -/

/-- Settles O26: `ISR` writes InvShiftRows of `ST`; a byte that arrives at column `c + r` came from column `c`. -/
theorem isrRotatesTheRowsRight : Obligations.IsrRotatesTheRowsRight := by
  unfold Obligations.IsrRotatesTheRowsRight
  refine ⟨rfl, fun s hu => ?_, fun s => ⟨invShiftRows_shiftRows s, shiftRows_invShiftRows s⟩,
    cell_shiftRows_two_eq_cell_invShiftRows⟩
  obtain ⟨t, hexec, hst, hupc, hframe⟩ := exists_next_of_newSt (i := .isr) (s := s) rfl hu
  have hcell : ∀ r c, cell t.st r (c + r) = cell s.st r c := fun r c => by
    have hback : c + r - r = c := by omega
    rw [hst, cell_invShiftRows, hback]
  refine ⟨t, hexec, fun r c c' hc => ?_, fun c => ?_, hupc, hframe⟩
  · obtain rfl : c' = c + r := Fin.ext hc
    exact hcell r c
  · simpa [cell] using hcell 0 c

/-! ### `IMC` -/

/-- Settles O27: `IMC` writes InvMixColumns of `ST`, the product with the printed inverse matrix, whose rows each sum to
1 and whose product with the forward matrix is the unit matrix in both orders. -/
theorem imcMixesEveryColumnBack : Obligations.ImcMixesEveryColumnBack := by
  unfold Obligations.ImcMixesEveryColumnBack
  refine ⟨rfl, fun s hu => ?_, invMixColumns_xorBlock,
    fun s => ⟨invMixColumns_mixColumns s, mixColumns_invMixColumns s⟩⟩
  obtain ⟨t, hexec, hst, hupc, hframe⟩ := exists_next_of_newSt (i := .imc) (s := s) rfl hu
  have hcell : ∀ r c, cell t.st r c = columnProduct inverseMatrix s.st r c := fun r c => by
    rw [hst, cell_invMixColumns]
  refine ⟨t, hexec, hcell, fun c x hx r => ?_, hupc, hframe⟩
  rw [hcell]
  exact columnProduct_of_equal_column (by decide) hx r

/-! ### The inverse pairs -/

theorem st_of_newSt {i : Instr} {b : Block} (h : newSt i s = some b) (hexec : exec i s = .next t) : t.st = b := by
  obtain ⟨-, rfl⟩ := (exec_next_iff_of_newSt h).mp hexec
  rfl

/-- A micro-operation that makes `b` of `ST`, and then one whose transform `g` makes the old `ST` of `b`. -/
theorem st_restored_of_newSt {i j : Instr} {g : Block → Block} {b : Block} (hg : g b = s.st) (hi : newSt i s = some b)
    (hj : newSt j t = some (g t.st)) (hexec : exec i s = .next t) (hexec' : exec j t = .next u) : u.st = s.st := by
  rw [st_of_newSt hj hexec', st_of_newSt hi hexec, hg]

/-- Settles O33: each transform undoes its partner, and `ARK n` reads the same round key both times, because it writes
only `ST` and `UPC`. -/
theorem inversePairsRestoreTheState : Obligations.InversePairsRestoreTheState := by
  unfold Obligations.InversePairsRestoreTheState
  intro i j s t u hpair hexec hexec'
  obtain ⟨rfl, rfl⟩ | ⟨rfl, rfl⟩ | ⟨rfl, rfl⟩ | ⟨rfl, rfl⟩ | ⟨rfl, rfl⟩ | ⟨rfl, rfl⟩ | ⟨n, rfl, rfl⟩ := hpair
  · exact st_restored_of_newSt (invSubBytes_subBytes s.st) rfl rfl hexec hexec'
  · exact st_restored_of_newSt (subBytes_invSubBytes s.st) rfl rfl hexec hexec'
  · exact st_restored_of_newSt (invShiftRows_shiftRows s.st) rfl rfl hexec hexec'
  · exact st_restored_of_newSt (shiftRows_invShiftRows s.st) rfl rfl hexec hexec'
  · exact st_restored_of_newSt (invMixColumns_mixColumns s.st) rfl rfl hexec hexec'
  · exact st_restored_of_newSt (mixColumns_invMixColumns s.st) rfl rfl hexec hexec'
  · obtain ⟨r, hr⟩ := arkOperand_of_exec hexec
    have hrk : t.rk = s.rk := (sameButSt_of_newSt (newSt_ark hr) hexec).rk
    exact st_restored_of_newSt (g := (addRoundKey · t.rk[r])) (by rw [hrk, addRoundKey_addRoundKey]) (newSt_ark hr)
      (newSt_ark hr) hexec hexec'

end Sys2Proof.Machine
end

section
/-! SUPPORT. The two pure functions are inverse to each other (R179): round by round, from the inverses of the
transforms. -/

namespace Sys2Proof.Machine

/-! ### One round undone -/

/-- The byte transforms of a round, which `decrypt_block` undoes by `ISR` and then `ISB` (R175, R176). -/
def shiftSub (s : Block) : Block := shiftRows (subBytes s)

/-- The byte transforms of an inverse round (R176). -/
def invShiftSub (s : Block) : Block := invSubBytes (invShiftRows s)

@[simp] theorem invShiftSub_shiftSub (s : Block) : invShiftSub (shiftSub s) = s := by
  rw [invShiftSub, shiftSub, invShiftRows_shiftRows, invSubBytes_subBytes]

@[simp] theorem shiftSub_invShiftSub (s : Block) : shiftSub (invShiftSub s) = s := by
  rw [shiftSub, invShiftSub, subBytes_invSubBytes, shiftRows_invShiftRows]

theorem encryptRound_eq (rk : Vector Block 11) (s : Block) (r : Fin 11) :
    encryptRound rk s r = addRoundKey (mixColumns (shiftSub s)) rk[r] := rfl

theorem decryptRound_eq (rk : Vector Block 11) (s : Block) (r : Fin 11) :
    decryptRound rk s r = invMixColumns (addRoundKey (invShiftSub s) rk[r]) := rfl

/-- An inverse round takes back a round between two applications of the byte transforms (R178). -/
theorem decryptRound_shiftSub_encryptRound (rk : Vector Block 11) (s : Block) (r : Fin 11) :
    decryptRound rk (shiftSub (encryptRound rk s r)) r = shiftSub s := by
  rw [decryptRound_eq, invShiftSub_shiftSub, encryptRound_eq, addRoundKey_addRoundKey, invMixColumns_mixColumns]

/-- A round takes back an inverse round between two applications of the inverse byte transforms. -/
theorem encryptRound_invShiftSub_decryptRound (rk : Vector Block 11) (s : Block) (r : Fin 11) :
    encryptRound rk (invShiftSub (decryptRound rk s r)) r = invShiftSub s := by
  rw [encryptRound_eq, shiftSub_invShiftSub, decryptRound_eq, mixColumns_invMixColumns, addRoundKey_addRoundKey]

/-! ### All rounds undone -/

/-- If `g · a` takes back `f · a` through `h`, then folding `g` over the reversed list takes back folding `f`. -/
theorem foldl_reverse_of_undoes {α β : Type} {f g : β → α → β} {h : β → β} (hundo : ∀ b a, g (h (f b a)) a = h b)
    (as : List α) (b : β) : as.reverse.foldl g (h (as.foldl f b)) = h b := by
  induction as generalizing b with
  | nil => rfl
  | cons a as ih => rw [List.reverse_cons, List.foldl_concat, List.foldl_cons, ih, hundo]

/-- The round indices of `encrypt_block` (R175). -/
def encryptOrder : List (Fin 11) := [1, 2, 3, 4, 5, 6, 7, 8, 9]

theorem encryptBlock_eq (key p : Block) :
    encryptBlock key p =
      addRoundKey (shiftSub (encryptOrder.foldl (encryptRound (expand key)) (addRoundKey p (expand key)[0])))
        (expand key)[10] := rfl

/-- `decrypt_block` takes the rounds in the reverse order (R176). -/
theorem decryptBlock_eq (key c : Block) :
    decryptBlock key c =
      addRoundKey (invShiftSub (encryptOrder.reverse.foldl (decryptRound (expand key)) (addRoundKey c (expand key)[10])))
        (expand key)[0] := rfl

theorem decryptBlock_encryptBlock (key p : Block) : decryptBlock key (encryptBlock key p) = p := by
  rw [decryptBlock_eq, encryptBlock_eq, addRoundKey_addRoundKey,
    foldl_reverse_of_undoes (decryptRound_shiftSub_encryptRound _), invShiftSub_shiftSub, addRoundKey_addRoundKey]

theorem encryptBlock_decryptBlock (key c : Block) : encryptBlock key (decryptBlock key c) = c := by
  have hrounds := foldl_reverse_of_undoes (encryptRound_invShiftSub_decryptRound (expand key)) encryptOrder.reverse
  rw [List.reverse_reverse] at hrounds
  rw [encryptBlock_eq, decryptBlock_eq, addRoundKey_addRoundKey, hrounds, shiftSub_invShiftSub, addRoundKey_addRoundKey]

/-- Settles O41: the rounds are undone one by one, and a function with a two-sided inverse is a bijection. -/
theorem decryptInvertsEncrypt : Obligations.DecryptInvertsEncrypt := by
  unfold Obligations.DecryptInvertsEncrypt
  intro key
  exact ⟨decryptBlock_encryptBlock key, encryptBlock_decryptBlock key,
    Function.bijective_iff_has_inverse.mpr
      ⟨decryptBlock key, decryptBlock_encryptBlock key, encryptBlock_decryptBlock key⟩⟩

end Sys2Proof.Machine
end

section
/-! SUPPORT. The two commands on the machine: command start (R171), the 53 steps (R175 to R177), and that their outcome
depends on mode, key and block only (R180). -/

namespace Sys2Proof.Machine

variable {s : State}

/-! ### The end of a command -/

@[simp] theorem takeInputs_mode (n : Nat) : (takeInputs n s).mode = s.mode := rfl
@[simp] theorem takeInputs_err (n : Nat) : (takeInputs n s).err = s.err := rfl

@[simp] theorem foldl_microStep_mode (is : List Instr) : (is.foldl microStep s).mode = s.mode := by
  obtain ⟨b, rk, h⟩ := foldl_microStep_eq (s := s) is
  rw [h]

@[simp] theorem foldl_microStep_err (is : List Instr) : (is.foldl microStep s).err = s.err := by
  obtain ⟨b, rk, h⟩ := foldl_microStep_eq (s := s) is
  rw [h]

/-- What a command given to `s` leaves at its end: its program run from command start, and then `OUT`. -/
def commandEnd (s : State) (mode : BitVec 1) (key block : Block) : State :=
  finishedState (takeInputs 53 ((programOf mode).foldl microStep (startedState s mode key block)))

section CommandEnd

variable (mode : BitVec 1) (key block : Block)

/-- The machine is there 53 steps after command start, whatever commands are presented (R175, R176). -/
theorem runSteps_startedState (hin : NoResetFor 53 s.inbox) :
    runSteps 53 (startedState s mode key block) = .next (commandEnd s mode key block) :=
  runSteps_of_started rfl rfl hin

@[simp] theorem commandEnd_outb : (commandEnd s mode key block).outb = cipherOf mode key block := by
  rw [commandEnd, finishedState_outb, takeInputs_st, foldl_programOf_st, startedState_k, startedState_bin]

@[simp] theorem commandEnd_status : (commandEnd s mode key block).status = .done := rfl

@[simp] theorem commandEnd_err : (commandEnd s mode key block).err = .none := by simp [commandEnd]

@[simp] theorem commandEnd_mode : (commandEnd s mode key block).mode = mode := by simp [commandEnd]

@[simp] theorem commandEnd_upc : (commandEnd s mode key block).upc = entryUpc mode + 52#7 := by
  simp [commandEnd, programOf_length]

@[simp] theorem commandEnd_inbox : (commandEnd s mode key block).inbox = s.inbox.drop 53 := by simp [commandEnd]

end CommandEnd

/-- A command given while none runs is started and comes to its end in 53 steps, with what it leaves there (R171, R175,
R176). -/
theorem exists_commandEnd (mode : BitVec 1) (key block : Block) (hb : s.status ≠ .busy) (hin : NoResetFor 53 s.inbox) :
    ∃ t u, exec (coreCommand mode key block) s = .next t ∧ runSteps 53 t = .next u ∧ u.outb = cipherOf mode key block ∧
      u.status = .done ∧ u.err = .none ∧ u.mode = mode ∧ u.upc = entryUpc mode + 52#7 ∧
      u.inbox = s.inbox.drop 53 :=
  ⟨startedState s mode key block, commandEnd s mode key block, exec_coreCommand mode key block hb,
    runSteps_startedState mode key block hin, by simp⟩

/-- Settles O14: `ENC` is the command of mode 0. -/
theorem encCommandEncryptsItsBlock : Obligations.EncCommandEncryptsItsBlock := by
  unfold Obligations.EncCommandEncryptsItsBlock
  intro s key block hb hin
  exact exists_commandEnd 0#1 key block hb hin

/-- Settles O15: `DEC` is the command of mode 1. -/
theorem decCommandDecryptsItsBlock : Obligations.DecCommandDecryptsItsBlock := by
  unfold Obligations.DecCommandDecryptsItsBlock
  intro s key block hb hin
  exact exists_commandEnd 1#1 key block hb hin

/-- Settles O43: what a command leaves at its end in `OUTB` and `ERR` does not mention the state before, and the answer
is read from `OUTB`. -/
theorem outputDependsOnTheCommandOnly : Obligations.OutputDependsOnTheCommandOnly := by
  unfold Obligations.OutputDependsOnTheCommandOnly
  intro s s' m key block hb hb' hin hin'
  obtain ⟨t, u, hexec, hrun, houtb, hdone, herr, -⟩ := exists_commandEnd m key block hb hin
  obtain ⟨t', u', hexec', hrun', houtb', hdone', herr', -⟩ := exists_commandEnd m key block hb' hin'
  refine ⟨t, t', u, u', hexec, hexec', hrun, hrun', hdone, hdone', houtb.trans houtb'.symm, herr.trans herr'.symm, ?_⟩
  rw [answer_of_done hdone, answer_of_done hdone', houtb, houtb']

/-! ### The steps of a command before its end -/

theorem stretchAt_take {a : BitVec 7} {is : List Instr} (h : stretchAt a is = true) (n : Nat) :
    stretchAt a (is.take n) = true := by
  induction is generalizing a n with
  | nil => simpa using h
  | cons i is ih =>
    obtain ⟨hi, his⟩ := Bool.and_eq_true_iff.mp h
    cases n with
    | zero => rfl
    | succ n => exact Bool.and_eq_true_iff.mpr ⟨hi, ih his n⟩

/-- After `j` steps a started command has run the first `j` micro-operations of its program (R177). -/
theorem runSteps_take_of_started {mode : BitVec 1} {j : Nat} (hj : j ≤ 52) (hb : s.status = .busy)
    (hu : s.upc = entryUpc mode) (hin : NoResetFor j s.inbox) :
    runSteps j s = .next (takeInputs j (((programOf mode).take j).foldl microStep s)) := by
  have hlen : ((programOf mode).take j).length = j := by rw [List.length_take, programOf_length, min_eq_left hj]
  have hrun := runSteps_of_stretchAt (hu ▸ stretchAt_take (stretchAt_programOf mode) j) hb (hlen.symm ▸ hin)
  rwa [hlen] at hrun

/-- The `j`-th entry of a program (R174). -/
theorem entryUpc_add_toNat (mode : BitVec 1) {j : Nat} (hj : j ≤ 52) :
    (entryUpc mode + BitVec.ofNat 7 j).toNat = 64 * mode.toNat + j := by
  have hentry := entryUpc_toNat mode
  have hmode := mode.isLt
  rw [BitVec.toNat_add, BitVec.toNat_ofNat, hentry]
  omega

/-- Settles O16: the program is a straight line of 52 micro-operations that leave `STATUS`, and then comes `OUT`. -/
theorem commandTakesFiftyThreeSteps : Obligations.CommandTakesFiftyThreeSteps := by
  unfold Obligations.CommandTakesFiftyThreeSteps
  intro s t m key block hb hin hexec
  rw [exec_coreCommand m key block hb] at hexec
  cases hexec
  refine ⟨fun j hj => ?_, commandEnd s m key block, runSteps_startedState m key block hin, rfl⟩
  refine ⟨_, runSteps_take_of_started hj rfl rfl (noResetFor_of_le (by omega) hin), by simp, ?_⟩
  rw [takeInputs_upc, foldl_microStep_upc, List.length_take, programOf_length, min_eq_left hj, startedState_upc,
    entryUpc_add_toNat m hj]

/-! ### Command start -/

/-- A command given while another runs leaves the state as it is (R171, D18). -/
theorem startCommand_of_busy {mode : BitVec 1} {key block : Block} (hb : s.status = .busy) :
    startCommand s mode key block = .next s := startCommand_next_iff.mpr (.inl ⟨hb, rfl⟩)

/-- A boundary command after which a command runs has passed every check (R171, R205). -/
theorem validate_ok_of_busy {t : State} {c : BCmd} (hb : s.status ≠ .busy) (hc : currentInput s = .request c)
    (hstep : step s = .next t) (ht : t.status = .busy) : ∃ i, validate c = .ok i := by
  rw [step_request hc hb, runRequest] at hstep
  cases hv : validate c with
  | ok i => exact ⟨i, rfl⟩
  | error e =>
    rw [hv] at hstep
    cases hstep
    cases ht

/-- Settles O13: a command is started while none runs, ignored while one runs, and a rejection starts none. -/
theorem commandStartLatchesItsInputs : Obligations.CommandStartLatchesItsInputs := by
  unfold Obligations.CommandStartLatchesItsInputs
  refine ⟨fun s m key block hb => ?starts, fun s key block hb => ?ignored, fun s t c => validate_ok_of_busy⟩
  case starts =>
    exact ⟨startedState s m key block, exec_coreCommand m key block hb, fun _ => rfl, fun _ => rfl, rfl, rfl,
      entryUpc_toNat m, rfl⟩
  case ignored => exact ⟨startCommand_of_busy hb, startCommand_of_busy hb⟩

/-! ### `LDST` and `OUT` -/

/-- Settles O19: `LDST` makes `BIN` the new State. -/
theorem ldstLoadsTheState : Obligations.LdstLoadsTheState := by
  unfold Obligations.LdstLoadsTheState
  refine ⟨rfl, fun s hu => ?_⟩
  obtain ⟨t, hexec, hst, hupc, hframe⟩ := exists_next_of_newSt (i := .ldst) (s := s) rfl hu
  exact ⟨t, hexec, fun i => congrArg (Block.get · i) hst, hupc, hframe⟩

/-- Settles O20: `OUT` leaves the finished state, whose answer is read from `OUTB`. -/
theorem outDeliversTheState : Obligations.OutDeliversTheState := by
  unfold Obligations.OutDeliversTheState
  refine ⟨rfl, fun s => ?_⟩
  exact ⟨finishedState s, rfl, fun _ => rfl, finishedState_status s, finishedState_upc s, finishedState_mode s,
    finishedState_err s, answer_of_done (finishedState_status s)⟩

end Sys2Proof.Machine
end

section
/-! SUPPORT. The boundary checks (R201 to R206): when each of them reports, and the core command of a command that passes
them all. -/

namespace Sys2Proof.Machine

/-! ### Byte values -/

theorem outOfByteRange_iff {z : Int} : outOfByteRange z = true ↔ z < 0 ∨ 255 < z := by simp [outOfByteRange]

theorem any_outOfByteRange_iff {l : List Int} : l.any outOfByteRange = true ↔ ∃ z ∈ l, z < 0 ∨ 255 < z := by
  simp [outOfByteRange_iff]

/-- A collection passes the byte check when all its elements are in [0,255] (R203). -/
theorem not_any_outOfByteRange_iff {l : List Int} : ¬ l.any outOfByteRange = true ↔ ∀ z ∈ l, 0 ≤ z ∧ z ≤ 255 := by
  rw [any_outOfByteRange_iff]
  simp

/-- Byte `i` of the buffer of a collection of 16 byte values is its element `i` (R206). -/
theorem getElem?_eq_get_blockOfColl {l : List Int} (hlen : l.length = 16) (hrange : ∀ z ∈ l, 0 ≤ z ∧ z ≤ 255)
    (i : Fin 16) : l[i.val]? = some (((blockOfColl l).get i).toNat : Int) := by
  have hi : i.val < l.length := by omega
  obtain ⟨hlow, hhigh⟩ := hrange l[i.val] (List.getElem_mem hi)
  rw [blockOfColl, Block.get_ofFn, List.getD_eq_getElem _ _ hi, List.getElem?_eq_getElem hi, BitVec.toNat_ofInt]
  congr 1
  omega

/-! ### The checks in their order -/

variable {c : BCmd}

theorem validate_of_keyLength (hk : c.keyColl.length ≠ 16) : validate c = .error .invalidKeyLength := if_pos hk

theorem validate_of_blockLength (hk : c.keyColl.length = 16) (hb : c.blockColl.length ≠ 16) :
    validate c = .error .invalidBlockLength := by
  rw [validate, if_neg (not_not_intro hk), if_pos hb]

/-- A wrong byte value in either collection is reported once both lengths are right (R203, R206). -/
theorem validate_of_byteValue (hk : c.keyColl.length = 16) (hb : c.blockColl.length = 16)
    (h : c.keyColl.any outOfByteRange = true ∨ c.blockColl.any outOfByteRange = true) :
    validate c = .error .invalidByteValue := by
  rw [validate, if_neg (not_not_intro hk), if_neg (not_not_intro hb)]
  split
  · rfl
  · next hkey => rw [if_pos (h.resolve_left hkey)]

/-- The command carries 16 byte values as its key and 16 as its block: only its mode is left to check. -/
structure PassesDataChecks (c : BCmd) : Prop where
  keyLength : c.keyColl.length = 16
  blockLength : c.blockColl.length = 16
  keyRange : ∀ z ∈ c.keyColl, 0 ≤ z ∧ z ≤ 255
  blockRange : ∀ z ∈ c.blockColl, 0 ≤ z ∧ z ≤ 255

/-- After the checks of the two collections the mode decides (R204, R206). -/
theorem validate_of_passesDataChecks (h : PassesDataChecks c) :
    validate c = if c.modeSel ≠ 0 ∧ c.modeSel ≠ 1 then .error .invalidMode
      else .ok (coreCommand (BitVec.ofInt 1 c.modeSel) (blockOfColl c.keyColl) (blockOfColl c.blockColl)) := by
  rw [validate, if_neg (not_not_intro h.keyLength), if_neg (not_not_intro h.blockLength),
    if_neg (not_any_outOfByteRange_iff.mpr h.keyRange), if_neg (not_any_outOfByteRange_iff.mpr h.blockRange)]

/-- Mode 0 is `ENC` and mode 1 is `DEC` (R73, R206). -/
theorem coreCommand_ofInt {m : Int} (hm : m = 0 ∨ m = 1) (key block : Block) :
    coreCommand (BitVec.ofInt 1 m) key block = if m = 0 then .enc key block else .dec key block := by
  rcases hm with rfl | rfl
  · rfl
  · rfl

/-- Settles O44: each check is reached by the commands that pass the ones before it. -/
theorem validateChecksInOrder : Obligations.ValidateChecksInOrder := by
  unfold Obligations.ValidateChecksInOrder
  intro c
  refine ⟨validate_of_keyLength, validate_of_blockLength, fun hk hb hz => ?keyByte, fun hk hb hz => ?blockByte,
    fun hk hb hkr hbr hm0 hm1 => ?mode, fun hk hb hkr hbr hm => ?passes⟩
  case keyByte => exact validate_of_byteValue hk hb (.inl (any_outOfByteRange_iff.mpr hz))
  case blockByte => exact validate_of_byteValue hk hb (.inr (any_outOfByteRange_iff.mpr hz))
  case mode => rw [validate_of_passesDataChecks ⟨hk, hb, hkr, hbr⟩, if_pos ⟨hm0, hm1⟩]
  case passes =>
    refine ⟨blockOfColl c.keyColl, blockOfColl c.blockColl, ?_, getElem?_eq_get_blockOfColl hk hkr,
      getElem?_eq_get_blockOfColl hb hbr⟩
    rw [validate_of_passesDataChecks ⟨hk, hb, hkr, hbr⟩, if_neg (by omega), coreCommand_ofInt hm]

end Sys2Proof.Machine
end

section
/-! SUPPORT. The step of a machine on which no command runs, under each host input: a command start (R171), a rejection
(R205, R207), and that `STATUS = ERROR` makes no difference to either (R208). -/

namespace Sys2Proof.Machine

variable {s : State}

/-- A core command on the ports is started with the buffers its two fields carry (R72, R171). -/
theorem step_start_of_not_busy {m : BitVec 1} {k b : BitVec 128} (hc : currentInput s = .start m k b)
    (hb : s.status ≠ .busy) :
    step s = .next (startedState (popInput s) m (blockOfField k) (blockOfField b)) := by
  rw [step_start hc hb, runWord, decode, decodeCmd, cmdMode_cmdWord, cmdKey_cmdWord, cmdBlock_cmdWord]
  exact exec_coreCommand m _ _ hb

/-- An accepted boundary command is started (R171, R206). -/
theorem step_accepted {c : BCmd} {i : Instr} (hc : currentInput s = .request c) (hb : s.status ≠ .busy)
    (hv : validate c = .ok i) :
    step s = .next (startedState (popInput s) (BitVec.ofInt 1 c.modeSel) (blockOfColl c.keyColl)
      (blockOfColl c.blockColl)) := by
  rw [step_request hc hb, runRequest, hv, validate_ok hv]
  exact exec_coreCommand _ _ _ hb

/-- A rejected boundary command takes the trap entry (R205, R207). -/
theorem step_rejected {c : BCmd} {e : InputError} (hc : currentInput s = .request c) (hb : s.status ≠ .busy)
    (he : validate c = .error e) : step s = .next (raiseError (popInput s) e) := by
  rw [step_request hc hb, runRequest, he]

/-- Settles O46: the trap entry writes `ERR` and `STATUS`, and the host input is used up. -/
theorem rejectionWritesOnlyStatusAndErr : Obligations.RejectionWritesOnlyStatusAndErr := by
  unfold Obligations.RejectionWritesOnlyStatusAndErr
  intro s c e hb hc he
  exact ⟨raiseError (popInput s) e, step_rejected hc hb he, rfl, rfl, rfl, rfl, rfl, rfl, rfl, rfl, rfl, rfl, rfl, rfl,
    rfl⟩

/-- Whatever the host presents, the step writes `STATUS` and reads of it only whether a command runs (R208, R230). -/
theorem step_congr_status {x y : Status} (hx : x ≠ .busy) (hy : y ≠ .busy) (hin : currentInput s ≠ .quiet) :
    step { s with status := x } = step { s with status := y } := by
  have input (z : Status) : currentInput { s with status := z } = currentInput s := rfl
  cases hc : currentInput s with
  | quiet => exact absurd hc hin
  | rst =>
    rw [step_reset ((input x).trans hc), step_reset ((input y).trans hc)]
    rfl
  | start m k b =>
    rw [step_start_of_not_busy ((input x).trans hc) hx, step_start_of_not_busy ((input y).trans hc) hy]
    rfl
  | request c =>
    cases hv : validate c with
    | ok i =>
      rw [step_accepted ((input x).trans hc) hx hv, step_accepted ((input y).trans hc) hy hv]
      rfl
    | error e =>
      rw [step_rejected ((input x).trans hc) hx hv, step_rejected ((input y).trans hc) hy hv]
      rfl

/-- Settles O49: a rejection leaves `STATUS = ERROR`, from which the next step is that of any state in which no command
runs. -/
theorem rejectionRepeatsAndBlocksNothing : Obligations.RejectionRepeatsAndBlocksNothing := by
  unfold Obligations.RejectionRepeatsAndBlocksNothing
  refine ⟨fun s c e rest hb hi he => ?repeats, fun s m key block => ?accepted, fun s hin => ?same⟩
  case repeats =>
    have hfirst : currentInput s = .request c := by rw [currentInput, hi, List.headD_cons]
    have hsecond : currentInput (raiseError (popInput s) e) = .request c := by
      rw [currentInput, raiseError_inbox, popInput_inbox, hi, List.tail_cons, List.headD_cons]
    exact ⟨_, _, step_rejected hfirst hb he, step_rejected hsecond (by simp) he, rfl, rfl, rfl, rfl⟩
  case accepted => exact ⟨_, exec_coreCommand m key block (by simp), rfl⟩
  case same => exact ⟨step_congr_status (by simp) (by simp) hin, step_congr_status (by simp) (by simp) hin⟩

/-- A machine on which no command runs has a next state under every host input (R205, R206). -/
theorem exists_step_of_not_busy (hb : s.status ≠ .busy) : ∃ t, step s = .next t := by
  cases hc : currentInput s with
  | rst => exact ⟨_, step_reset hc⟩
  | quiet => exact ⟨_, step_quiet hc hb⟩
  | start m k b => exact ⟨_, step_start_of_not_busy hc hb⟩
  | request c =>
    cases hv : validate c with
    | ok i => exact ⟨_, step_accepted hc hb hv⟩
    | error e => exact ⟨_, step_rejected hc hb hv⟩

end Sys2Proof.Machine
end

section
/-! SUPPORT. The step of a running command inside its own program: it executes a micro-operation that moves on, or the
`OUT` at the end (R170, R174), so it never stops (R77, R209). -/

namespace Sys2Proof.Machine

variable {s : State}

/-- Every entry of a stretch decodes to its micro-operation, which can advance `UPC` there. -/
theorem entry_of_stretchAt {a : BitVec 7} {is : List Instr} (h : stretchAt a is = true) {j : Nat} (hj : j < is.length) :
    decode (.uop (urom (a + BitVec.ofNat 7 j))) = .ok is[j] ∧ movesOn is[j] = true ∧ a + BitVec.ofNat 7 j ≠ 127#7 := by
  induction is generalizing a j with
  | nil => cases hj
  | cons i is ih =>
    obtain ⟨⟨⟨hd, hm⟩, hu⟩, hrest⟩ : ((decode (.uop (urom a)) = .ok i ∧ movesOn i = true) ∧ a ≠ 127#7) ∧
        stretchAt (a + 1#7) is = true := by simpa [stretchAt] using h
    cases j with
    | zero => simpa using ⟨hd, hm, hu⟩
    | succ j =>
      have hentry := ih hrest (Nat.lt_of_succ_lt_succ hj)
      rwa [BitVec.add_assoc, ← BitVec.ofNat_add, Nat.add_comm 1 j] at hentry

/-- The entries of a program are the 53 from its first on (R174). -/
theorem exists_entry_of_inProgram {mode : BitVec 1} {upc : BitVec 7} (h : InProgram mode upc) :
    ∃ j ≤ 52, upc = entryUpc mode + BitVec.ofNat 7 j := by
  obtain ⟨hlow, hhigh⟩ : 64 * mode.toNat ≤ upc.toNat ∧ upc.toNat ≤ 64 * mode.toNat + 52 := by
    rcases h with ⟨rfl, hhigh⟩ | ⟨rfl, hlow, hhigh⟩
    · exact ⟨Nat.zero_le _, hhigh⟩
    · exact ⟨hlow, hhigh⟩
  refine ⟨upc.toNat - 64 * mode.toNat, by omega, BitVec.eq_of_toNat_eq ?_⟩
  rw [entryUpc_add_toNat mode (by omega), Nat.add_sub_cancel' hlow]

/-- A command inside its own program executes one of the program's micro-operations, or its `OUT` (R170, R174). -/
theorem step_of_inProgram (hin : currentInput s ≠ .rst) (hb : s.status = .busy) (h : InProgram s.mode s.upc) :
    (∃ i ∈ programOf s.mode, step s = .next (microStep (takeInputs 1 s) i)) ∨
    step s = .next (finishedState (takeInputs 1 s)) := by
  obtain ⟨j, hj, hupc⟩ := exists_entry_of_inProgram h
  rcases Nat.lt_or_eq_of_le hj with hlt | rfl
  · have hlen : j < (programOf s.mode).length := by rwa [programOf_length]
    obtain ⟨hd, hm, hu⟩ := entry_of_stretchAt (stretchAt_programOf s.mode) hlen
    rw [← hupc] at hd hu
    exact .inl ⟨_, List.getElem_mem hlen, (step_busy_of_decode hin hb hd).trans (exec_of_movesOn hm hu)⟩
  · exact .inr (step_busy_of_decode (i := .out) hin hb (hupc ▸ decode_urom_out s.mode))

/-- Settles O40: a reset always acts, a running command is inside its program, and without one every input has a
step. Without a command a quiet step is the model's own (log entry 12). -/
theorem stepNeverStopsUnderTheInvariant : Obligations.StepNeverStopsUnderTheInvariant := by
  unfold Obligations.StepNeverStopsUnderTheInvariant
  intro s hinv
  by_cases hr : currentInput s = .rst
  · exact ⟨_, step_reset hr⟩
  by_cases hb : s.status = .busy
  · rcases step_of_inProgram hr hb (hinv.inProgram hb) with ⟨i, -, hstep⟩ | hstep
    · exact ⟨_, hstep⟩
    · exact ⟨_, hstep⟩
  · exact exists_step_of_not_busy hb

end Sys2Proof.Machine
end

section
/-! SUPPORT. Encoding and decoding are inverse to each other on well-formed instructions and legal words (R72 to R79),
and the words of the two bodies stand in `UROM` (R174). -/

namespace Sys2Proof

/-! ### The word of an instruction decodes to it -/

/-- The word of a core command is its mode bit and its two buffers (R72, R73). -/
theorem encode_coreCommand (mode : BitVec 1) (key block : Block) :
    encode (coreCommand mode key block) = .cmd (cmdWord mode (fieldOfBlock key) (fieldOfBlock block)) := by
  rcases BitVec.eq_zero_or_eq_one mode with rfl | rfl
  · rfl
  · rfl

theorem decodeCmd_cmdWord (mode : BitVec 1) (k b : BitVec 128) :
    decodeCmd (cmdWord mode k b) = coreCommand mode (blockOfField k) (blockOfField b) := by
  rw [decodeCmd, cmdMode_cmdWord, cmdKey_cmdWord, cmdBlock_cmdWord]

theorem decode_encode_coreCommand (mode : BitVec 1) (key block : Block) :
    decode (encode (coreCommand mode key block)) = .ok (coreCommand mode key block) := by
  rw [encode_coreCommand, decode, decodeCmd_cmdWord, blockOfField_fieldOfBlock, blockOfField_fieldOfBlock]

theorem decodeUop_kxrWord {n : BitVec 4} (h : (Instr.kxr n).wf = true) :
    decodeUop (uopWord 0x2#4 n) = .ok (.kxr n) := by
  have hn : 1 ≤ n.toNat ∧ n.toNat ≤ 10 := by simpa [Instr.wf, kxrIndexOk] using h
  rw [decodeUop_of_op_kxr (uopOp_uopWord 0x2#4 n), uopN_uopWord, if_pos hn]

theorem decodeUop_arkWord {n : BitVec 4} (h : (Instr.ark n).wf = true) :
    decodeUop (uopWord 0x4#4 n) = .ok (.ark n) := by
  have hn : n.toNat ≤ 10 := by simpa [Instr.wf, arkIndexOk] using h
  rw [decodeUop_of_op_ark (uopOp_uopWord 0x4#4 n), uopN_uopWord, if_pos hn]

/-- Settles O5: the fields of a word put together are the fields put in, and every other word is a constant. -/
theorem decodeOfEncodeIsTheInstruction : Obligations.DecodeOfEncodeIsTheInstruction := by
  unfold Obligations.DecodeOfEncodeIsTheInstruction
  intro i hwf
  cases i with
  | enc key block => exact decode_encode_coreCommand 0#1 key block
  | dec key block => exact decode_encode_coreCommand 1#1 key block
  | kxr n => exact decodeUop_kxrWord hwf
  | ark n => exact decodeUop_arkWord hwf
  | kld => rfl
  | ldst => rfl
  | sb => rfl
  | sr => rfl
  | mc => rfl
  | isb => rfl
  | isr => rfl
  | imc => rfl
  | out => rfl

/-! ### The instruction a word decodes to has that word -/

/-- A buffer read from a 128-bit field makes that field again: bit `j` is a bit of byte `15 - j / 8` (R52, R72). -/
@[simp] theorem fieldOfBlock_blockOfField (x : BitVec 128) : fieldOfBlock (blockOfField x) = x := by
  apply BitVec.eq_of_getLsbD_eq
  intro j hj
  have hbyte (i : Fin 16) : fieldByte (fieldOfBlock (blockOfField x)) i = fieldByte x i := by
    rw [fieldByte_fieldOfBlock, get_blockOfField]
  have hbit := congrArg (BitVec.getLsbD · (j % 8)) (hbyte ⟨15 - j / 8, by omega⟩)
  simpa [fieldByte, Nat.mod_lt, show 120 - 8 * (15 - j / 8) + j % 8 = j by omega] using hbit

/-- A core command word is its three fields (R72). -/
@[simp] theorem cmdWord_fields (w : BitVec 257) : cmdWord (cmdMode w) (cmdKey w) (cmdBlock w) = w := by
  apply BitVec.eq_of_getLsbD_eq
  intro j hj
  simp [cmdWord, cmdMode, cmdKey, cmdBlock, hj]
  grind

/-- A micro-operation word is its two fields (R74). -/
theorem uopWord_fields (w : BitVec 8) : uopWord (uopOp w) (uopN w) = w := by
  revert w
  decide

theorem encode_of_plainUop : ∀ op, ∀ i ∈ plainUop op, encode i = .uop (uopWord op 0#4) ∧ i.wf = true := by decide

theorem encode_decodeCmd (w : BitVec 257) : encode (decodeCmd w) = .cmd w ∧ (decodeCmd w).wf = true := by
  refine ⟨?_, ?_⟩
  · rw [decodeCmd, encode_coreCommand, fieldOfBlock_blockOfField, fieldOfBlock_blockOfField, cmdWord_fields]
  · unfold decodeCmd coreCommand
    split <;> rfl

theorem encode_of_decodeUop {w : BitVec 8} {i : Instr} (h : decodeUop w = .ok i) : encode i = .uop w ∧ i.wf = true := by
  have hw := uopWord_fields w
  by_cases hkxr : uopOp w = 0x2#4
  · rw [decodeUop_of_op_kxr hkxr] at h
    split at h
    case isTrue hn =>
      cases h
      exact ⟨by rw [encode, ← hkxr, hw], by simpa [Instr.wf, kxrIndexOk] using hn⟩
    case isFalse => cases h
  by_cases hark : uopOp w = 0x4#4
  · rw [decodeUop_of_op_ark hark] at h
    split at h
    case isTrue hn =>
      cases h
      exact ⟨by rw [encode, ← hark, hw], by simpa [Instr.wf, arkIndexOk] using hn⟩
    case isFalse => cases h
  rw [decodeUop, if_neg hkxr, if_neg hark] at h
  split at h
  case h_1 => cases h
  case h_2 j hplain =>
    split at h
    case isTrue hn =>
      cases h
      obtain ⟨hencode, hwf⟩ := encode_of_plainUop _ i hplain
      exact ⟨by rw [hencode, ← hn, hw], hwf⟩
    case isFalse => cases h

/-- Settles O6: a word of either format is made again from its fields. -/
theorem encodeOfDecodeIsTheWord : Obligations.EncodeOfDecodeIsTheWord := by
  unfold Obligations.EncodeOfDecodeIsTheWord
  intro w i h
  cases w with
  | uop w => exact encode_of_decodeUop h
  | cmd w =>
    cases h
    exact encode_decodeCmd w

/-- Settles O3: the decoder evaluated on the 13 words and the two commands. -/
theorem decodeOfSampleWords : Obligations.DecodeOfSampleWords := by
  unfold Obligations.DecodeOfSampleWords
  refine ⟨rfl, rfl, rfl, rfl, rfl, rfl, rfl, rfl, rfl, rfl, rfl, rfl, rfl, ?enc, ?dec⟩
  case enc => decide +kernel
  case dec => decide +kernel

/-! ### Words that do not decode -/

theorem rejectedWord_of_decodeUop {w : BitVec 8} {r : Reject} (h : decodeUop w = .error r) : rejectedWord r = w := by
  unfold decodeUop at h
  repeat' split at h
  all_goals cases h <;> rfl

end Sys2Proof
end

section
/-! SUPPORT. Which instructions the machine fetches (R170, R174) and the step that executes the decoded one (R83,
R171). -/

namespace Sys2Proof.Machine

variable {s : State}

/-! ### The instructions in `UROM` -/

/-- The well-formed instructions are the core commands, `OUT`, and the micro-operations that move on (R70, R76). -/
theorem movesOn_of_wf {i : Instr} (hwf : i.wf = true) (hcmd : ∀ m key block, i ≠ coreCommand m key block)
    (hout : i ≠ .out) : movesOn i = true := by
  cases i with
  | enc key block => exact absurd rfl (hcmd 0#1 key block)
  | dec key block => exact absurd rfl (hcmd 1#1 key block)
  | out => exact absurd rfl hout
  | kxr n => exact hwf
  | ark n => exact hwf
  | _ => rfl

/-- A micro-operation word never stands for a core command (R70). -/
theorem movesOn_or_out_of_decode {w : BitVec 8} {i : Instr} (h : decode (.uop w) = .ok i) :
    movesOn i = true ∨ i = .out := by
  obtain ⟨hencode, hwf⟩ := encode_of_decodeUop h
  by_cases hout : i = .out
  · exact .inr hout
  · refine .inl (movesOn_of_wf hwf (fun m key block hi => ?_) hout)
    rw [hi, encode_coreCommand] at hencode
    cases hencode

/-- The 53 entries of a program are the instructions of its body (R81, R174). -/
theorem decode_urom_body (mode : BitVec 1) (a : Fin 53) :
    some (decode (.uop (urom (entryUpc mode + BitVec.ofNat 7 a.val)))) =
      ((programOf mode ++ [.out])[a.val]?).map Except.ok := by
  have hlen := programOf_length mode
  rcases Nat.lt_or_eq_of_le (Nat.le_of_lt_succ a.isLt) with hlt | heq
  · have hplace : a.val < (programOf mode).length := by rwa [hlen]
    obtain ⟨hd, -, -⟩ := entry_of_stretchAt (stretchAt_programOf mode) hplace
    rw [hd, List.getElem?_append_left hplace, List.getElem?_eq_getElem hplace, Option.map_some]
  · rw [heq, decode_urom_out, ← hlen, List.getElem?_concat_length, Option.map_some]

/-- The entries behind the two programs hold the illegal word (R77, R174). -/
theorem urom_unused :
    ∀ a : Fin 11, urom (BitVec.ofNat 7 (53 + a.val)) = 0x00#8 ∧ urom (BitVec.ofNat 7 (117 + a.val)) = 0x00#8 := by
  decide +kernel

/-- Settles O37: each body is the program of its mode with `OUT` behind it. -/
theorem microprogramIsTheTwoBodies : Obligations.MicroprogramIsTheTwoBodies := by
  unfold Obligations.MicroprogramIsTheTwoBodies
  have henc : encBody = programOf 0#1 ++ [.out] := (programOf_append_out 0#1).symm
  have hdec : decBody = programOf 1#1 ++ [.out] := (programOf_append_out 1#1).symm
  refine ⟨rfl, rfl, fun a => ?enc, fun a => ?dec, urom_unused⟩
  case enc => rw [henc, ← decode_urom_body 0#1 a, entryUpc, if_pos rfl, BitVec.zero_add]
  case dec => rw [hdec, ← decode_urom_body 1#1 a, entryUpc, if_neg (by decide), BitVec.ofNat_add]

/-! ### The step of the decoded instruction -/

theorem runWord_of_decode {w : InstrWord} {i : Instr} (h : decode w = .ok i) : runWord w s = exec i s := by
  rw [runWord, h]

/-- Settles O8: the step runs the word at `UPC` or the word on the ports, and running a word is decode and exec. -/
theorem stepRunsTheDecodedInstruction : Obligations.StepRunsTheDecodedInstruction := by
  unfold Obligations.StepRunsTheDecodedInstruction
  refine ⟨fun s i hin hb hd => ?busy, fun s m k b i hc hb hd => ?ports⟩
  case busy => rw [step_busy hin hb, runWord_of_decode hd]
  case ports => rw [step_start hc hb, runWord_of_decode hd]

/-- Every legal word has an entry in `UROM` (R174). -/
theorem mem_uromTable_of_legal : ∀ w ∈ Laws.LegalWord.legalWords, w ∈ uromTable := by decide +kernel

/-- A placed micro-operation word is at `UPC` (log entry 15). -/
theorem urom_upc_placeUop {w : BitVec 8} {i : Instr} (h : decode (.uop w) = .ok i) : urom (placeUop s w).upc = w := by
  have hbool : (decodeUop w).toBool = true := congrArg Except.toBool h
  have hlegal : w ∈ Laws.LegalWord.legalWords := (decodeUop_toBool_iff w).mp hbool
  exact urom_uromAddressOf w (mem_uromTable_of_legal w hlegal)

theorem step_placeUop {w : BitVec 8} {i : Instr} (h : decode (.uop w) = .ok i) :
    step (placeUop s w) = exec i (popInput (placeUop s w)) := by
  have hquiet : currentInput (placeUop s w) = .quiet := rfl
  rw [step_busy (by simp [hquiet]) rfl, urom_upc_placeUop h, runWord_of_decode h]

theorem placeCmd_status_ne_busy (w : BitVec 257) : (placeCmd s w).status ≠ .busy := by
  unfold placeCmd
  split
  · simp
  · assumption

theorem step_placeCmd {w : BitVec 257} {i : Instr} (h : decode (.cmd w) = .ok i) :
    step (placeCmd s w) = exec i (popInput (placeCmd s w)) := by
  have hports : currentInput (placeCmd s w) = .start (cmdMode w) (cmdKey w) (cmdBlock w) := rfl
  rw [step_start hports (placeCmd_status_ne_busy w), cmdWord_fields, runWord_of_decode h]

theorem eq_ok_of_toOption {x : Except Reject Instr} {i : Instr} (h : x.toOption = some i) : x = .ok i := by
  cases x with
  | ok j => exact congrArg Except.ok (Option.some.inj h)
  | error r => cases h

/-- A table word that decodes is read in the format of its width (R72, R74; log entry 15). -/
theorem decode_of_decodeTableWord {nbits w : Nat} {i : Instr} (h : decodeTableWord nbits w = some i) :
    decode (if nbits ≤ 8 then .uop (BitVec.ofNat 8 w) else .cmd (BitVec.ofNat 257 w)) = .ok i := by
  unfold decodeTableWord at h
  repeat' split at h
  case isTrue.isTrue hbits _ => exact if_pos hbits ▸ eq_ok_of_toOption h
  case isFalse.isTrue hbits _ => exact if_neg hbits ▸ eq_ok_of_toOption h
  all_goals cases h

/-- Settles O9: a micro-operation word is at `UPC` of a running command, a command word on the ports of a machine on
which none runs. The placing is the model's (log entry 15). -/
theorem placedWordRunsNext : Obligations.PlacedWordRunsNext := by
  unfold Obligations.PlacedWordRunsNext
  intro s nbits w i h
  have hd := decode_of_decodeTableWord h
  unfold State.withFetchWord
  split
  case isTrue hbits => exact step_placeUop (by rwa [if_pos hbits] at hd)
  case isFalse hbits => exact step_placeCmd (by rwa [if_neg hbits] at hd)

/-! ### Illegal words -/

theorem runWord_of_illegal {w : BitVec 8} {r : Reject} (h : decode (.uop w) = .error r) :
    runWord (.uop w) s = .refused (.illegalUop w) := by
  have hw : rejectedWord r = w := rejectedWord_of_decodeUop h
  simp [runWord, h, hw]

/-- Settles O10: the sequencer names the word that does not decode, and `KXR` and `ARK` the word of their own index. -/
theorem illegalWordIsRefused : Obligations.IllegalWordIsRefused := by
  unfold Obligations.IllegalWordIsRefused
  refine ⟨fun s r hin hb hd => ?fetched, fun s n hn => ?kxr, fun s n hn => ?ark⟩
  case fetched => rw [step_busy hin hb, runWord_of_illegal hd]
  case kxr =>
    have hnone : kxrOperand n = none := dif_neg (by omega)
    rw [exec, execKxr, hnone, kxrWord_eq_uopWord]
  case ark =>
    have hnone : arkOperand n = none := dif_neg (by omega)
    rw [exec, execArk, hnone, arkWord_eq_uopWord]

/-! ### A command given while another runs, and a step without a command -/

theorem exec_coreCommand_eq_startCommand (mode : BitVec 1) (key block : Block) :
    exec (coreCommand mode key block) s = startCommand s mode key block := by
  rcases BitVec.eq_zero_or_eq_one mode with rfl | rfl
  · rfl
  · rfl

/-- Settles O12: while a command runs, the step looks at its host input only to see whether it is a reset. -/
theorem commandGivenWhileBusyIsIgnored : Obligations.CommandGivenWhileBusyIsIgnored := by
  unfold Obligations.CommandGivenWhileBusyIsIgnored
  refine ⟨fun s input rest hb hin => ?step, fun s m key block hb => ?exec⟩
  case step =>
    have hquiet : currentInput { s with inbox := .quiet :: rest } ≠ .rst := HostInput.noConfusion
    rw [step_busy (s := { s with inbox := input :: rest }) hin hb, step_busy hquiet hb]
    rfl
  case exec => rw [exec_coreCommand_eq_startCommand, startCommand_of_busy hb]

/-- Settles O11: a quiet step only uses up its host input. -/
theorem stepWithoutCommandDoesNothing : Obligations.StepWithoutCommandDoesNothing := by
  unfold Obligations.StepWithoutCommandDoesNothing
  intro s hb hc
  exact step_quiet hc hb

/-- Settles O47: the checks are made first, and what they accept is a core command that is executed. -/
theorem acceptedRequestRunsItsCommand : Obligations.AcceptedRequestRunsItsCommand := by
  unfold Obligations.AcceptedRequestRunsItsCommand
  intro s c i hb hc hv
  exact ⟨by rw [step_request hc hb, runRequest, hv], _, _, _, validate_ok hv⟩

end Sys2Proof.Machine
end

section
/-! SUPPORT. What each instruction writes and what it leaves unchanged (R20, R23, R50), and what the boundary reports
(R200 to R206). -/

namespace Sys2Proof.Machine

variable {s t : State}

/-! ### The advance of `UPC` -/

theorem microStep_upc (i : Instr) : (microStep s i).upc = s.upc + 1#7 := by
  obtain ⟨b, rk, h⟩ := microStep_eq (s := s) i
  rw [h]

/-- At 127 the increment has no meaning (R23, U8; log entry 8). -/
theorem exec_of_movesOn_at_127 {i : Instr} (h : movesOn i = true) (hu : s.upc = 127#7) :
    exec i s = .refused .upcWrap := by
  rcases newSt_or_newRk_of_movesOn (s := s) h with ⟨b, hb⟩ | ⟨-, n, b, hb⟩
  · exact (exec_of_newSt hb).trans (advance_at_127 hu)
  · exact (exec_of_newRk hb).trans (advance_at_127 hu)

theorem exec_next_of_movesOn {i : Instr} (h : movesOn i = true) (hexec : exec i s = .next t) : t = microStep s i := by
  by_cases hu : s.upc = 127#7
  · cases (exec_of_movesOn_at_127 h hu).symm.trans hexec
  · cases (exec_of_movesOn h hu).symm.trans hexec
    rfl

/-- Settles O29: these are the micro-operations that move on. That they are refused at 127 is the model's (log entry
8). -/
theorem uopsAdvanceUpcWithoutWrap : Obligations.UopsAdvanceUpcWithoutWrap := by
  unfold Obligations.UopsAdvanceUpcWithoutWrap
  intro s i hwf hcmd hout
  have hm := movesOn_of_wf hwf hcmd hout
  refine ⟨fun hu => ⟨microStep s i, exec_of_movesOn hm hu, ?_⟩, exec_of_movesOn_at_127 hm⟩
  rw [microStep_upc]
  bv_omega

/-! ### The frames of the key schedule, of command start and of `OUT` -/

theorem sameButRk_of_newRk {i : Instr} {n : Fin 11} {b : Block} (h : newRk i s = some (n, b))
    (hexec : exec i s = .next t) : SameButRk n s t := by
  obtain ⟨-, rfl⟩ := (exec_next_iff_of_newRk h).mp hexec
  exact sameButRk_advanced_setRk n b

/-- `KXR n` gives a next state only on its operand range (R76). -/
theorem kxrOperand_of_exec {n : BitVec 4} (h : exec (.kxr n) s = .next t) :
    ∃ src dst : Fin 11, dst.val = n.toNat ∧ src.val + 1 = dst.val := by
  cases hn : kxrOperand n with
  | none => simp [exec, execKxr, hn] at h
  | some p => exact ⟨p.1, p.2, kxrOperand_eq_some_iff.mp hn⟩

/-- Settles O31: each of them makes one round key, `KXR n` when its index is in range. -/
theorem keyScheduleFrame : Obligations.KeyScheduleFrame := by
  unfold Obligations.KeyScheduleFrame
  refine ⟨fun s t hexec => sameButRk_of_newRk rfl hexec, fun s t n dst hdst hexec => ?_⟩
  obtain ⟨src, dst', hdst', hsrc⟩ := kxrOperand_of_exec hexec
  exact sameButRk_of_newRk (newRk_kxr hdst (by omega : src.val + 1 = n.toNat)) hexec

/-- Settles O32: a command start writes none of these registers, whether it is accepted or ignored; `OUT` leaves the
finished state. -/
theorem commandAndOutFrame : Obligations.CommandAndOutFrame := by
  unfold Obligations.CommandAndOutFrame
  refine ⟨fun m key block s t hexec => ?command, fun s t hexec => ?out⟩
  case command =>
    rw [exec_coreCommand_eq_startCommand, startCommand_next_iff] at hexec
    rcases hexec with ⟨-, rfl⟩ | ⟨-, rfl⟩
    · exact ⟨rfl, rfl, rfl, rfl, rfl⟩
    · exact ⟨rfl, rfl, rfl, rfl, rfl⟩
  case out =>
    cases hexec
    exact ⟨rfl, rfl, rfl, rfl⟩

/-! ### The writers of each register -/

/-- The micro-operations that write `ST` and move on (R20). -/
theorem writer_of_newSt {i : Instr} {b : Block} (h : newSt i s = some b) :
    i = .ldst ∨ (∃ n, i = .ark n) ∨ i = .sb ∨ i = .sr ∨ i = .mc ∨ i = .isb ∨ i = .isr ∨ i = .imc := by
  cases i <;> simp [newSt] at h ⊢

/-- The micro-operations that write `RK[n]` and move on (R20). -/
theorem writer_of_newRk {i : Instr} {n : Fin 11} {b : Block} (h : newRk i s = some (n, b)) :
    (n = 0 ∧ i = .kld) ∨ i = .kxr (BitVec.ofNat 4 n.val) := by
  cases i with
  | kld =>
    cases h
    exact .inl ⟨rfl, rfl⟩
  | kxr m =>
    obtain ⟨⟨src, dst⟩, hp, he⟩ := Option.map_eq_some_iff.mp h
    cases he
    obtain ⟨hdst, -⟩ := kxrOperand_eq_some_iff.mp hp
    exact .inr (by rw [hdst, BitVec.ofNat_toNat, BitVec.setWidth_eq])
  | _ => cases h

/-- Settles O51: one shape of next state after the other, each with the registers it writes. -/
theorem whoWritesTheDataRegisters : Obligations.WhoWritesTheDataRegisters := by
  unfold Obligations.WhoWritesTheDataRegisters
  intro i s t hexec
  rcases exec_next_cases hexec with ⟨b, hb, -, rfl⟩ | ⟨m, b, hb, -, rfl⟩ | ⟨rfl, rfl⟩ | ⟨m, key, block, rfl, -, rfl⟩ |
    ⟨m, key, block, rfl, -, rfl⟩
  case inl =>
    refine ⟨fun _ => ?_, by simp, by simp, by simp, by simp⟩
    have hwriter := writer_of_newSt hb
    tauto
  case inr.inl =>
    refine ⟨by simp, fun n hn => ?_, by simp, by simp, by simp⟩
    obtain rfl : n = m := by
      by_contra hne
      exact hn (setRk_rk_other s m n b hne)
    have hwriter := writer_of_newRk hb
    tauto
  case inr.inr.inl => simp
  case inr.inr.inr.inl =>
    exact ⟨by simp, by simp, fun _ => .inl ⟨m, key, block, rfl⟩, fun _ => ⟨m, key, block, rfl⟩, by simp⟩
  case inr.inr.inr.inr => simp

/-- No micro-operation but `OUT` writes `STATUS` or `ERR` (R24, R26). -/
theorem status_err_of_exec {i : Instr} (hcmd : ∀ m key block, i ≠ coreCommand m key block) (hout : i ≠ .out)
    (hexec : exec i s = .next t) : t.status = s.status ∧ t.err = s.err := by
  rcases exec_next_cases hexec with ⟨b, -, -, rfl⟩ | ⟨n, b, -, -, rfl⟩ | ⟨hi, -⟩ | ⟨m, key, block, hi, -⟩ |
    ⟨m, key, block, hi, -⟩
  · exact ⟨rfl, rfl⟩
  · exact ⟨rfl, rfl⟩
  · exact absurd hi hout
  · exact absurd hi (hcmd m key block)
  · exact absurd hi (hcmd m key block)

/-- The core raises no error; a command start clears `ERR` (R171, R209). -/
theorem err_of_exec {i : Instr} (hexec : exec i s = .next t) : t.err = s.err ∨ t.err = .none := by
  rcases exec_next_cases hexec with ⟨b, -, -, rfl⟩ | ⟨n, b, -, -, rfl⟩ | ⟨-, rfl⟩ | ⟨m, key, block, -, -, rfl⟩ |
    ⟨m, key, block, -, -, rfl⟩
  · exact .inl rfl
  · exact .inl rfl
  · exact .inl rfl
  · exact .inr rfl
  · exact .inl rfl

/-! ### The reported error -/

/-- A wrong byte value of either collection makes `InvalidByteValue` apply (R203). -/
theorem applies_invalidByteValue {c : BCmd}
    (h : c.keyColl.any outOfByteRange = true ∨ c.blockColl.any outOfByteRange = true) :
    Applies c .invalidByteValue := by
  rcases h with hkey | hblock
  · obtain ⟨z, hz, hrange⟩ := any_outOfByteRange_iff.mp hkey
    exact ⟨z, List.mem_append_left _ hz, hrange⟩
  · obtain ⟨z, hz, hrange⟩ := any_outOfByteRange_iff.mp hblock
    exact ⟨z, List.mem_append_right _ hz, hrange⟩

/-- The check that reports is one that failed (R206, U5). -/
theorem applies_of_validate {c : BCmd} {e : InputError} (h : validate c = .error e) : Applies c e := by
  unfold validate at h
  split at h
  case isTrue hk => cases h; exact hk
  split at h
  case isTrue hb => cases h; exact hb
  split at h
  case isTrue hkey => cases h; exact applies_invalidByteValue (.inl hkey)
  split at h
  case isTrue hblock => cases h; exact applies_invalidByteValue (.inr hblock)
  split at h
  case isTrue hm => cases h; exact hm
  cases h

theorem passesDataChecks_of_validate {c : BCmd} {i : Instr} (h : validate c = .ok i) :
    PassesDataChecks c ∧ (c.modeSel = 0 ∨ c.modeSel = 1) := by
  unfold validate at h
  repeat' split at h
  case isFalse.isFalse.isFalse.isFalse.isFalse hk hb hkey hblock hm =>
    exact ⟨⟨not_not.mp hk, not_not.mp hb, not_any_outOfByteRange_iff.mp hkey, not_any_outOfByteRange_iff.mp hblock⟩,
      by omega⟩
  all_goals cases h

/-- To an accepted command no error applies (R201 to R204). -/
theorem not_applies_of_validate {c : BCmd} {i : Instr} (h : validate c = .ok i) (e : InputError) : ¬ Applies c e := by
  obtain ⟨⟨hk, hb, hkey, hblock⟩, hm⟩ := passesDataChecks_of_validate h
  cases e with
  | invalidKeyLength => exact not_not_intro hk
  | invalidBlockLength => exact not_not_intro hb
  | invalidByteValue =>
    rintro ⟨z, hz, hrange⟩
    have : 0 ≤ z ∧ z ≤ 255 := (List.mem_append.mp hz).elim (hkey z) (hblock z)
    omega
  | invalidMode =>
    rintro ⟨hm0, hm1⟩
    omega

/-- Settles O45: a reported error is that of a check that failed, and an accepted command has passed them all. -/
theorem reportedErrorApplies : Obligations.ReportedErrorApplies := by
  unfold Obligations.ReportedErrorApplies
  refine ⟨fun c e => applies_of_validate, fun c ⟨e, he⟩ => ?_, fun i s t => err_of_exec, rfl, rfl, rfl, rfl⟩
  cases hv : validate c with
  | error e' => exact ⟨e', rfl⟩
  | ok i => exact absurd he (not_applies_of_validate hv e)

end Sys2Proof.Machine
end

section
/-! SUPPORT. The kinds of step, and from them what changes `STATUS` (R24) and what a running command keeps (R25, R28,
R61). -/

namespace Sys2Proof.Machine

variable {s t : State}

/-! ### The kinds of step -/

/-- Every next state of a step, with the circumstances in which the step gives it (R170, R171, R173, R207, R230). -/
inductive StepKind (s : State) : State → Prop
  /-- a reset, whether a command runs or not -/
  | reset (hc : currentInput s = .rst) : StepKind s (resetEvent (popInput s))
  /-- a micro-operation of a running command that moves on -/
  | moves {i : Instr} (hb : s.status = .busy) (hd : decode (.uop (urom s.upc)) = .ok i) (hm : movesOn i = true) :
    StepKind s (microStep (popInput s) i)
  /-- the `OUT` of a running command -/
  | out (hb : s.status = .busy) (hd : decode (.uop (urom s.upc)) = .ok .out) : StepKind s (finishedState (popInput s))
  /-- nothing runs and nothing is presented -/
  | idle (hb : s.status ≠ .busy) (hc : currentInput s = .quiet) : StepKind s (popInput s)
  /-- a core command on the ports is started -/
  | started {m : BitVec 1} {k b : BitVec 128} (hb : s.status ≠ .busy) (hc : currentInput s = .start m k b) :
    StepKind s (startedState (popInput s) m (blockOfField k) (blockOfField b))
  /-- a boundary command passes the checks and is started -/
  | accepted {c : BCmd} {i : Instr} (hb : s.status ≠ .busy) (hc : currentInput s = .request c)
    (hv : validate c = .ok i) :
    StepKind s (startedState (popInput s) (BitVec.ofInt 1 c.modeSel) (blockOfColl c.keyColl) (blockOfColl c.blockColl))
  /-- a boundary command is rejected -/
  | rejected {c : BCmd} {e : InputError} (hb : s.status ≠ .busy) (hc : currentInput s = .request c)
    (he : validate c = .error e) : StepKind s (raiseError (popInput s) e)

theorem stepKind_of_busy (hin : currentInput s ≠ .rst) (hb : s.status = .busy) (h : step s = .next t) :
    StepKind s t := by
  rw [step_busy hin hb] at h
  cases hd : decode (.uop (urom s.upc)) with
  | error r =>
    rw [runWord_of_illegal hd] at h
    cases h
  | ok i =>
    rw [runWord_of_decode hd] at h
    rcases movesOn_or_out_of_decode hd with hm | rfl
    · rw [exec_next_of_movesOn hm h]
      exact .moves hb hd hm
    · cases h
      exact .out hb hd

theorem stepKind_of_not_busy (hb : s.status ≠ .busy) (h : step s = .next t) : StepKind s t := by
  cases hc : currentInput s with
  | rst =>
    cases (step_reset hc).symm.trans h
    exact .reset hc
  | quiet =>
    cases (step_quiet hc hb).symm.trans h
    exact .idle hb hc
  | start m k b =>
    cases (step_start_of_not_busy hc hb).symm.trans h
    exact .started hb hc
  | request c =>
    cases hv : validate c with
    | ok i =>
      cases (step_accepted hc hb hv).symm.trans h
      exact .accepted hb hc hv
    | error e =>
      cases (step_rejected hc hb hv).symm.trans h
      exact .rejected hb hc hv

/-- A step that gives a next state is of one of these kinds. -/
theorem stepKind_of_step (h : step s = .next t) : StepKind s t := by
  by_cases hr : currentInput s = .rst
  · cases (step_reset hr).symm.trans h
    exact .reset hr
  by_cases hb : s.status = .busy
  · exact stepKind_of_busy hr hb h
  · exact stepKind_of_not_busy hb h

/-! ### `STATUS` and the latches -/

/-- A micro-operation that moves on keeps the control registers but `UPC`, the latches and `OUTB` (R20). -/
theorem microStep_frame (i : Instr) :
    (microStep s i).k = s.k ∧ (microStep s i).bin = s.bin ∧ (microStep s i).mode = s.mode ∧
      (microStep s i).outb = s.outb ∧ (microStep s i).err = s.err ∧ (microStep s i).status = s.status := by
  obtain ⟨b, rk, h⟩ := microStep_eq (s := s) i
  rw [h]
  exact ⟨rfl, rfl, rfl, rfl, rfl, rfl⟩

/-- Settles O50: each kind of step with the `STATUS` it leaves. That a command presented while `BUSY` is not among them
is R171 and D18 (log entry 11). -/
theorem whoWritesStatus : Obligations.WhoWritesStatus := by
  unfold Obligations.WhoWritesStatus
  refine ⟨⟨rfl, rfl, rfl, rfl⟩, fun s t hstep hne => ?_, fun i s t => status_err_of_exec⟩
  cases stepKind_of_step hstep with
  | reset hc => exact .inr (.inr (.inr ⟨rfl, hc⟩))
  | moves hb hd hm =>
    obtain ⟨-, -, -, -, -, hstatus⟩ := microStep_frame (s := popInput s) _
    exact absurd hstatus hne
  | out hb hd => exact .inr (.inl ⟨rfl, hb, hd⟩)
  | idle hb hc => exact absurd rfl hne
  | started hb hc => exact .inl ⟨rfl, hb, .inl ⟨_, _, _, hc⟩⟩
  | accepted hb hc hv => exact .inl ⟨rfl, hb, .inr ⟨_, _, hc, hv⟩⟩
  | rejected hb hc he => exact .inr (.inr (.inl ⟨rfl, hb, _, _, hc, he⟩))

/-- Settles O52: of a running command only the micro-operations that move on are left. That the host's commands do not
count while `BUSY` is R171 and D18 (log entry 11). -/
theorem busyStepKeepsTheLatches : Obligations.BusyStepKeepsTheLatches := by
  unfold Obligations.BusyStepKeepsTheLatches
  intro s t hbusy hin hnout hstep
  cases stepKind_of_step hstep with
  | reset hc => exact absurd hc hin
  | moves hb hd hm =>
    obtain ⟨hk, hbin, hmode, houtb, herr, hstatus⟩ := microStep_frame (s := popInput s) _
    exact ⟨hk, hbin, hmode, houtb, herr, hstatus.trans hb⟩
  | out hb hd => exact absurd hd hnout
  | idle hb hc => exact absurd hbusy hb
  | started hb hc => exact absurd hbusy hb
  | accepted hb hc hv => exact absurd hbusy hb
  | rejected hb hc he => exact absurd hbusy hb

end Sys2Proof.Machine
end

section
/-! SUPPORT. The invariant of the machine: it holds at reset, and every kind of step keeps it (R23, R24, R26, R29,
R231). -/

namespace Sys2Proof.Machine

variable {s t : State}

/-! ### The places of a program -/

/-- The entries from the first of a program on are inside it (R174). -/
theorem inProgram_entry (mode : BitVec 1) {j : Nat} (hj : j ≤ 52) :
    InProgram mode (entryUpc mode + BitVec.ofNat 7 j) := by
  have hupc := entryUpc_add_toNat mode hj
  rcases BitVec.eq_zero_or_eq_one mode with rfl | rfl
  · rw [BitVec.toNat_ofNat] at hupc
    exact .inl ⟨rfl, by omega⟩
  · rw [BitVec.toNat_ofNat] at hupc
    exact .inr ⟨rfl, by omega⟩

theorem position_entry (mode : BitVec 1) {j : Nat} (hj : j ≤ 52) : position (entryUpc mode + BitVec.ofNat 7 j) = j := by
  rw [position, entryUpc_add_toNat mode hj]
  omega

/-- A micro-operation that moves on is not the `OUT` at the end of the program, so it is the one at its place before it
(R174). -/
theorem programOf_getElem?_of_decode {mode : BitVec 1} {j : Nat} {i : Instr} (hj : j ≤ 52)
    (hd : decode (.uop (urom (entryUpc mode + BitVec.ofNat 7 j))) = .ok i) (hm : movesOn i = true) :
    j < 52 ∧ (programOf mode)[j]? = some i := by
  rcases Nat.lt_or_eq_of_le hj with hlt | rfl
  · have hlen : j < (programOf mode).length := by rwa [programOf_length]
    obtain ⟨hd', -, -⟩ := entry_of_stretchAt (stretchAt_programOf mode) hlen
    obtain rfl : (programOf mode)[j] = i := Except.ok.inj (hd'.symm.trans hd)
    exact ⟨hlt, List.getElem?_eq_getElem hlen⟩
  · obtain rfl : Instr.out = i := Except.ok.inj ((decode_urom_out mode).symm.trans hd)
    cases hm

/-! ### The round keys a program has passed -/

theorem microStep_rk_of_newRk_none {i : Instr} (h : newRk i s = none) : (microStep s i).rk = s.rk := by
  rw [microStep, written, h, advanced_rk]
  cases newSt i s <;> rfl

/-- A program begins with `KLD` and `KXR 1` to `KXR 10` (R81). -/
theorem programOf_getElem?_expand (mode : BitVec 1) :
    (programOf mode)[0]? = some .kld ∧
      ∀ n : Fin 11, n ≠ 0 → (programOf mode)[n.val]? = some (.kxr (roundOperand n)) := by
  revert mode
  decide

/-- What follows writes no round key (R81). -/
theorem newRk_of_mem_rounds : ∀ i ∈ Instr.ldst :: (encRounds ++ decRounds), newRk i s = none := by
  simp [encRounds, decRounds, roundBody, invRoundBody, finalRoundBody, invFinalBody, newRk]

theorem newRk_of_getElem?_programOf {mode : BitVec 1} {j : Nat} {i : Instr} (hj : 11 ≤ j)
    (h : (programOf mode)[j]? = some i) : newRk i s = none := by
  apply newRk_of_mem_rounds
  rw [programOf, List.getElem?_append_right hj] at h
  have hmem := List.mem_of_getElem? h
  split at hmem
  · exact List.cons_subset_cons _ (List.subset_append_left _ _) hmem
  · exact List.cons_subset_cons _ (List.subset_append_right _ _) hmem

/-- Each micro-operation of a program leaves the round keys up to its own place those of `expand(K)` (R113, R231). -/
theorem keysUpTo_succ_of_getElem? {mode : BitVec 1} {j : Nat} {i : Instr} (h : (programOf mode)[j]? = some i)
    (hkeys : KeysUpTo s.k j s) : KeysUpTo s.k (j + 1) (microStep s i) := by
  obtain ⟨hkld, hkxr⟩ := programOf_getElem?_expand mode
  by_cases hround : 11 ≤ j
  · intro m _
    rw [microStep_rk_of_newRk_none (newRk_of_getElem?_programOf hround h)]
    exact hkeys m (by omega)
  · cases j with
    | zero =>
      obtain rfl : Instr.kld = i := Option.some.inj (hkld.symm.trans h)
      exact keysUpTo_kld
    | succ j =>
      have hdst := hkxr ⟨j + 1, by omega⟩ (by simp)
      obtain rfl := Option.some.inj (hdst.symm.trans h)
      exact keysUpTo_kxr (src := ⟨j, by omega⟩) (dst := ⟨j + 1, by omega⟩) rfl hkeys

/-! ### The invariant -/

/-- On a machine on which no command runs, only `ERR` and `STATUS = ERROR` have to agree. -/
theorem inv_of_not_busy (hb : t.status ≠ .busy) (herr : t.status = .error ↔ t.err ≠ .none) : Inv t :=
  ⟨⟨fun h => absurd h hb, herr⟩, fun h => absurd h hb⟩

/-- At the entry of its program a command has passed no round key. -/
theorem inv_startedState (m : BitVec 1) (key block : Block) : Inv (startedState s m key block) := by
  have hentry : entryUpc m + BitVec.ofNat 7 0 = entryUpc m := by simp
  have hprogram := hentry ▸ inProgram_entry m (Nat.zero_le 52)
  have hposition := hentry ▸ position_entry m (Nat.zero_le 52)
  exact ⟨⟨fun _ => hprogram, by simp⟩, fun _ n hn => absurd hn (by simp [hposition])⟩

theorem inv_microStep {i : Instr} (hb : s.status = .busy) (hd : decode (.uop (urom s.upc)) = .ok i)
    (hm : movesOn i = true) (hinv : Inv s) : Inv (microStep s i) := by
  obtain ⟨⟨hprogram, herrIff⟩, hkeys⟩ := hinv
  obtain ⟨j, hj, hupc⟩ := exists_entry_of_inProgram (hprogram hb)
  obtain ⟨hlt, hi⟩ := programOf_getElem?_of_decode hj (hupc ▸ hd) hm
  obtain ⟨hk, -, hmode, -, herr, hstatus⟩ := microStep_frame (s := s) i
  have hnext : (microStep s i).upc = entryUpc s.mode + BitVec.ofNat 7 (j + 1) := by
    rw [microStep_upc, hupc, BitVec.add_assoc, ← BitVec.ofNat_add]
  have hpassed : KeysUpTo s.k j s := by
    have h := hkeys hb
    rwa [hupc, position_entry _ hj] at h
  refine ⟨⟨fun _ => ?program, ?error⟩, fun _ => ?keys⟩
  case program =>
    rw [hmode, hnext]
    exact inProgram_entry s.mode hlt
  case error => rwa [hstatus, herr]
  case keys =>
    rw [hnext, position_entry _ hlt, hk]
    exact keysUpTo_succ_of_getElem? hi hpassed

theorem inv_popInput (hinv : Inv s) : Inv (popInput s) := by
  obtain ⟨⟨hprogram, herr⟩, hkeys⟩ := hinv
  exact ⟨⟨hprogram, herr⟩, hkeys⟩

/-- Settles O38: no command runs after reset, and there is no error. -/
theorem invariantHoldsAtReset : Obligations.InvariantHoldsAtReset := by
  unfold Obligations.InvariantHoldsAtReset
  exact inv_of_not_busy (by simp) (by simp)

/-- Settles O39: a started command is at the entry of its program, each micro-operation leads to the next entry with one
more round key passed or all of them, and every other step leaves no command running. -/
theorem stepKeepsTheInvariant : Obligations.StepKeepsTheInvariant := by
  unfold Obligations.StepKeepsTheInvariant
  intro s t hinv hstep
  cases stepKind_of_step hstep with
  | reset hc => exact inv_of_not_busy (by simp) (by simp)
  | moves hb hd hm => exact inv_microStep (s := popInput s) hb hd hm (inv_popInput hinv)
  | out hb hd =>
    obtain ⟨⟨-, herr⟩, -⟩ := hinv
    have hnone : s.err = .none := by simpa [hb] using herr
    exact inv_of_not_busy (by simp) (by simp [hnone])
  | idle hb hc => exact inv_popInput hinv
  | started hb hc => exact inv_startedState _ _ _
  | accepted hb hc hv => exact inv_startedState _ _ _
  | rejected hb hc he => exact inv_of_not_busy (by simp) (by simp)

end Sys2Proof.Machine
end

section
/-! SUPPORT. What the host reads in each `STATUS` (R30, R82, R182), after a reset (R39, R230), and after two commands
that undo each other (R179). -/

namespace Sys2Proof.Machine

variable {s : State}

/-! ### The output and the answer -/

/-- The port `block_out` has a value exactly in `DONE` (R30; outside it none is the model's form, log entry 10). -/
theorem blockOut_ne_none_iff : blockOut s ≠ none ↔ s.status = .done := by
  unfold blockOut
  split <;> simp [*]

theorem answer_of_idle_or_busy (h : s.status = .idle ∨ s.status = .busy) : answer s = none := by
  rcases h with h | h
  · simp [answer, h]
  · simp [answer, h]

/-- In `ERROR` the answer is the error that `ERR` holds (R207). -/
theorem answer_of_error (h : s.status = .error) :
    (∀ l, answer s ≠ some (.ok l)) ∧ ∀ e, answer s = some (.error e) ↔ s.err = .raised e := by
  cases he : s.err with
  | none => simp [answer, h, he]
  | raised e => simp [answer, h, he]

theorem answer_ok_iff : (∃ l, answer s = some (.ok l)) ↔ s.status = .done := by
  cases hs : s.status with
  | idle => simp [answer_of_idle_or_busy (.inl hs)]
  | busy => simp [answer_of_idle_or_busy (.inr hs)]
  | done => simp [answer_of_done hs]
  | error =>
    obtain ⟨hok, -⟩ := answer_of_error hs
    simp [hok]

theorem answer_error_iff {e : InputError} : answer s = some (.error e) ↔ s.status = .error ∧ s.err = .raised e := by
  cases hs : s.status with
  | idle => simp [answer_of_idle_or_busy (.inl hs)]
  | busy => simp [answer_of_idle_or_busy (.inr hs)]
  | done => simp [answer_of_done hs]
  | error =>
    obtain ⟨-, herror⟩ := answer_of_error hs
    simp [herror]

/-- Settles O53: each port and each kind of answer by the `STATUS` in which it is there. -/
theorem hostReadsOnlyWhatIsThere : Obligations.HostReadsOnlyWhatIsThere := by
  unfold Obligations.HostReadsOnlyWhatIsThere
  intro s
  exact ⟨decide_eq_true_iff, decide_eq_true_iff, decide_eq_true_iff, blockOut_ne_none_iff, answer_ok_iff,
    fun _ => answer_error_iff, answer_of_idle_or_busy⟩

/-! ### Reset -/

theorem blockOut_of_idle (h : s.status = .idle) : blockOut s = none := by
  by_contra hne
  cases h.symm.trans (blockOut_ne_none_iff.mp hne)

/-- Settles O1: after reset `STATUS` is `IDLE`, in which the host reads nothing. -/
theorem resetLeavesControlRegisters : Obligations.ResetLeavesControlRegisters := by
  unfold Obligations.ResetLeavesControlRegisters
  exact ⟨rfl, rfl, rfl, answer_of_idle_or_busy (.inl reset_status), blockOut_of_idle reset_status⟩

/-- Settles O2: a reset step leaves `STATUS = IDLE`, in which the host reads nothing. That it comes before every other
event of its step is the model's (log entry 13). -/
theorem resetEventAbandonsTheCommand : Obligations.ResetEventAbandonsTheCommand := by
  unfold Obligations.ResetEventAbandonsTheCommand
  intro s hc
  exact ⟨resetEvent (popInput s), step_reset hc, rfl, rfl, rfl, answer_of_idle_or_busy (.inl rfl), blockOut_of_idle rfl⟩

/-! ### Two commands -/

/-- Settles O42: the second command starts at the end of the first and undoes it. -/
theorem encThenDecOnTheMachine : Obligations.EncThenDecOnTheMachine := by
  unfold Obligations.EncThenDecOnTheMachine
  intro s key block hb hin
  obtain ⟨t, u, hexec, hrun, houtb, hdone, -, -, -, hinbox⟩ :=
    exists_commandEnd 0#1 key block hb (noResetFor_of_le (by decide) hin)
  have hin' : NoResetFor 53 u.inbox := hinbox ▸ noResetFor_drop (m := 53) hin
  obtain ⟨v, w, hexec', hrun', houtb', hdone', -⟩ := exists_commandEnd 1#1 key u.outb (by simp [hdone]) hin'
  refine ⟨t, u, v, w, hexec, hrun, hdone, hexec', hrun', hdone', ?_⟩
  calc w.outb = decryptBlock key u.outb := houtb'
    _ = decryptBlock key (encryptBlock key block) := congrArg _ houtb
    _ = block := decryptBlock_encryptBlock key block

end Sys2Proof.Machine
end
